-- ==== Sys2Proof/Word.lean ====
section
/-! DEFINITION. The byte of the crane line and the helpers that split and join multi-byte fields (rules R1, R167). -/

namespace Sys2Proof

/-- One byte of the crane line, of a table entry or of the image. -/
abbrev Byte := BitVec 8

/-- The list of bytes of a payload, a record or a table entry, first byte first. -/
abbrev Bytes := List Byte

end Sys2Proof
end

