-- ==== Sys2Proof/Syntax.lean ====
section
/-! DEFINITION. The commands of the block: one constructor of Instr per row of spec/opcode_table.json, with its operands. -/

namespace Sys2Proof

/-- The two line ports (spec/00, "The CW46 on the crane line"). -/
inductive Port where
  /-- The Cab Port, which faces the cab master. -/
  | cab
  /-- The Crane Port, which faces the crane-side nodes. -/
  | crane
  deriving DecidableEq, Repr

/-- A byte as the physical layer hands it to a receiver, with its malformed mark (rule R104). -/
structure RxByte where
  /-- The byte. -/
  value : Byte
  /-- The physical layer's mark that the byte was malformed. -/
  malformed : Bool := false
  deriving DecidableEq, Repr

/-- The operand of a row that names the frame class itself: the rest of a frame whose check byte is right (rule R167).
In a command row `body` is the payload after the command identifier; in the other rows it is the whole payload. -/
structure Packet where
  /-- Destination address, byte 0 bits 4..0. -/
  dest : BitVec 5
  /-- Source address, byte 1 bits 4..0. -/
  src : BitVec 5
  /-- The spare bits 7..5 of byte 1, which a frame forwarded keeps. -/
  spare : BitVec 3 := 0
  /-- The payload, or the payload after the command identifier. -/
  body : Bytes
  deriving DecidableEq, Repr

/-- The levels of the two input pins that are read as levels (rules R107 and R47); true is asserted. -/
structure Pins where
  /-- CSI, chain-select in. -/
  csi : Bool
  /-- SKEY, the service key. -/
  skey : Bool
  deriving DecidableEq, Repr

/-- One byte of the nonvolatile image that holds something else than was written there: its offset 0..410 and what it
holds (rules R149, R152). -/
structure ByteChange where
  /-- Offset in the image: 0..408 the Table Set, 409 and 410 the check. -/
  offset : Nat
  /-- What the byte holds afterwards. -/
  value : Byte
  deriving DecidableEq, Repr

/-- The commands of the block. A command row (`assignAddress` to `unknownCommand`) is a good COMMAND frame with that
row's identifier arriving at the Cab Port. The docstrings name the rule the table gives for the row. -/
inductive Instr where
  /-- ASSIGN_ADDRESS (R108), with the level CSI has when the frame is handed to the Router (R107). -/
  | assignAddress (p : Packet) (csi : Bool)
  /-- READ_STATUS (R159). -/
  | readStatus (p : Packet)
  /-- CLEAR_CONDITIONS (R164). -/
  | clearConditions (p : Packet)
  /-- GUARD_START (R39). -/
  | guardStart (p : Packet)
  /-- GUARD_STOP (R44). -/
  | guardStop (p : Packet)
  /-- SERVICE_ENTER (R45), with the level SKEY has when the command is judged (R47). -/
  | serviceEnter (p : Packet) (skey : Bool)
  /-- SERVICE_EXIT (R46). -/
  | serviceExit (p : Packet)
  /-- PARK (R48). -/
  | park (p : Packet)
  /-- PARK_EXIT (R49). -/
  | parkExit (p : Packet)
  /-- FORCE_TEST (R50). -/
  | forceTest (p : Packet)
  /-- TABLE_WRITE (R137). -/
  | tableWrite (p : Packet)
  /-- TABLE_DATA (R139). -/
  | tableData (p : Packet)
  /-- TABLE_READ (R141). -/
  | tableRead (p : Packet)
  /-- COMMIT (R143). -/
  | commit (p : Packet)
  /-- CANCEL_COMMIT (R146). -/
  | cancelCommit (p : Packet)
  /-- STORE (R151). -/
  | store (p : Packet)
  /-- RELOAD (R154). -/
  | reload (p : Packet)
  /-- SELECT_ASSORTMENT (R93). -/
  | selectAssortment (p : Packet)
  /-- TARE (R83). -/
  | tare (p : Packet)
  /-- FETCH_LIFT (R100). -/
  | fetchLift (p : Packet)
  /-- READ_TALLY (R97). -/
  | readTally (p : Packet)
  /-- CLEAR_TALLY (R96). -/
  | clearTally (p : Packet)
  /-- LINE_RESET (R160). -/
  | lineReset (p : Packet)
  /-- UNKNOWN_COMMAND (R158): the body is the whole payload, empty or with an identifier that names no command. -/
  | unknownCommand (p : Packet)
  /-- CAB_PORT_FRAME (R109): the bytes a receiver has collected at the Cab Port, and the levels of the pins then. -/
  | cabPortFrame (rx : List RxByte) (pins : Pins)
  /-- CRANE_PORT_FRAME (R112): the bytes a receiver has collected at the Crane Port. -/
  | cranePortFrame (rx : List RxByte)
  /-- DEMAND (R52): a good DEMAND frame at the Cab Port. -/
  | demand (p : Packet)
  /-- SYNC (R125): a good SYNC frame at the Cab Port. -/
  | sync (p : Packet)
  /-- SAMPLE (R126): a good SAMPLE frame at the Crane Port. -/
  | sample (p : Packet)
  /-- FRAME_DEPARTS (R113): the last byte of the oldest frame of a port's queue has been sent. -/
  | frameDeparts (port : Port)
  /-- REPLY_JOINS_QUEUE (R116). -/
  | replyJoinsQueue
  /-- LINE_RESET_TAKES_EFFECT (R161). -/
  | lineResetTakesEffect
  /-- POWER_ON_RESET (R162). -/
  | powerOnReset
  /-- IMAGE_READ_END (R150). -/
  | imageReadEnd
  /-- STORE_END (R152): `left` lists the bytes of the image that read back as something else than was written. -/
  | storeEnd (left : List ByteChange)
  /-- RELOAD_END (R154). -/
  | reloadEnd
  /-- WATCH_EXPIRY (R42). -/
  | watchExpiry
  /-- SKEY_DEASSERT (R47). -/
  | skeyDeassert
  /-- PENDING_COMMIT_SWAP (R144). -/
  | pendingCommitSwap
  /-- LIFT_TIMER_TICK (R81). -/
  | liftTimerTick
  /-- WORK_TIMER_TICK (R95). -/
  | workTimerTick
  /-- NONVOLATILE_CONTENT_LOSS (R149): the bytes of the image that hold something else from now on. -/
  | nonvolatileContentLoss (lost : List ByteChange)
  deriving DecidableEq, Repr

/-- The command identifiers of rule R168. -/
inductive CommandId where
  | assignAddress | readStatus | clearConditions | guardStart | guardStop | serviceEnter | serviceExit | park | parkExit
  | forceTest | tableWrite | tableData | tableRead | commit | cancelCommit | store | reload | selectAssortment | tare
  | fetchLift | readTally | clearTally | lineReset
  deriving DecidableEq, Repr

end Sys2Proof
end

