-- ==== Sys2Proof/Machine/Operands.lean ====
section
/-! DEFINITION. Reading and writing the bytes of frames: multi-byte fields (R1, R167), the check byte (R103), the frame
layout and its reception tests (R102, R104, R167), and the command identifiers (R168). -/

namespace Sys2Proof.Machine

/-! ### Fields of several bytes -/

/-- The unsigned value of byte `k` of a list of bytes (0 past its end). -/
def u8At (b : Bytes) (k : Nat) : Nat := (b.getD k 0).toNat

/-- The unsigned 16-bit field that starts at byte `k`, most significant byte first (R1). -/
def u16At (b : Bytes) (k : Nat) : Nat := u8At b k * 256 + u8At b (k + 1)

/-- The unsigned 32-bit field that starts at byte `k`, most significant byte first (R1). -/
def u32At (b : Bytes) (k : Nat) : Nat := u16At b k * 65536 + u16At b (k + 2)

/-- An unsigned 16-bit value read as two's complement (R1). -/
def signed16 (n : Nat) : Int := if n < 32768 then (n : Int) else (n : Int) - 65536

/-- The signed 16-bit field that starts at byte `k` (R1). -/
def s16At (b : Bytes) (k : Nat) : Int := signed16 (u16At b k)

/-- Bits `lo` up to `lo + width - 1` of an unsigned value. -/
def bitField (n lo width : Nat) : Nat := n / 2 ^ lo % 2 ^ width

/-- The byte with the low eight bits of a value. -/
def byteOf (n : Nat) : Byte := BitVec.ofNat 8 n

/-- The two bytes of the low sixteen bits of a value, most significant first (R1). -/
def bytes16 (n : Nat) : Bytes := [byteOf (n / 256), byteOf n]

/-- The three bytes of the low 24 bits of a value, most significant first (R1). -/
def bytes24 (n : Nat) : Bytes := byteOf (n / 65536) :: bytes16 n

/-- The four bytes of the low 32 bits of a value, most significant first (R1). -/
def bytes32 (n : Nat) : Bytes := bytes16 (n / 65536) ++ bytes16 n

/-- The two bytes of a signed value in two's complement (R1). -/
def bytesSigned16 (d : Int) : Bytes := bytes16 (BitVec.ofInt 16 d).toNat

/-- A 16-bit field that may be absent: every bit set when it is (R167). -/
def optional16 (v : Option Nat) : Bytes := bytes16 (v.getD 65535)

/-- The 1 or 0 of a flag. -/
def flagBit (b : Bool) : Nat := if b then 1 else 0

/-! ### Frames -/

/-- A frame that has passed its checks. Its length byte and its check byte are computed from the rest (R102, R103), so
they are not held. -/
structure Frame where
  /-- Frame class, 0..7. -/
  cls : BitVec 3
  /-- Destination address. -/
  dest : BitVec 5
  /-- Spare bits 7..5 of byte 1. -/
  spare : BitVec 3 := 0
  /-- Source address. -/
  src : BitVec 5
  /-- Payload. -/
  payload : Bytes
  deriving DecidableEq, Repr

/-- The frame classes of rule R102 that have a name of their own; 5, 6 and 7 are PASS. -/
def classCommand : BitVec 3 := 0
/-- REPLY (R102). -/
def classReply : BitVec 3 := 1
/-- SAMPLE (R102). -/
def classSample : BitVec 3 := 2
/-- DEMAND (R102). -/
def classDemand : BitVec 3 := 3
/-- SYNC (R102). -/
def classSync : BitVec 3 := 4

/-- One shift of the line check register (R103, step 3): x⁴ + x³ + x² + 1 is 1DH. -/
def crc8Shift (r : BitVec 8) : BitVec 8 := if r.msb then (r <<< 1) ^^^ 0x1D#8 else r <<< 1

/-- One byte taken into the line check register (R103, steps 2 and 3). -/
def crc8Byte (r b : BitVec 8) : BitVec 8 := Nat.repeat crc8Shift 8 (r ^^^ b)

/-- The check byte over a list of bytes (R103). -/
def crc8 (bs : Bytes) : Byte := bs.foldl crc8Byte 0xFF#8

/-- Bytes 0, 1 and 2 of a frame (R167). -/
def Frame.header (f : Frame) : Bytes := [f.cls ++ f.dest, f.spare ++ f.src, byteOf f.payload.length]

/-- The bytes of a frame before its check byte. -/
def Frame.checked (f : Frame) : Bytes := f.header ++ f.payload

/-- The bytes of a frame on the line (R102, R167). -/
def Frame.bytes (f : Frame) : Bytes := f.checked ++ [crc8 f.checked]

/-- The tests of rule R104 on the bytes a receiver has collected: length, length field, check byte, malformed marks. -/
def goodReception (rx : List RxByte) : Bool :=
  let bs := rx.map (·.value)
  4 ≤ bs.length && bs.length ≤ 32 && u8At bs 2 ≤ 28 && u8At bs 2 + 4 == bs.length
    && crc8 bs.dropLast == bs.getLastD 0 && rx.all (fun b => !b.malformed)

/-- The fields of a good frame, from its bytes (R167). -/
def frameFields (bs : Bytes) : Frame where
  cls := (bs.getD 0 0).extractLsb' 5 3
  dest := (bs.getD 0 0).extractLsb' 0 5
  spare := (bs.getD 1 0).extractLsb' 5 3
  src := (bs.getD 1 0).extractLsb' 0 5
  payload := (bs.drop 3).dropLast

/-- The frame a receiver hands on, or none where the reception is bad (R104). -/
def receiveFrame (rx : List RxByte) : Option Frame :=
  if goodReception rx then some (frameFields (rx.map (·.value))) else none

/-- The frame of class `cls` that a row's operand stands for. -/
def frameOf (cls : BitVec 3) (p : Packet) : Frame :=
  { cls := cls, dest := p.dest, spare := p.spare, src := p.src, payload := p.body }

/-! ### Command identifiers -/

/-- The identifier of each command (R168). -/
def commandCode : CommandId → Byte
  | .assignAddress => 1
  | .readStatus => 2
  | .clearConditions => 3
  | .guardStart => 16
  | .guardStop => 17
  | .serviceEnter => 18
  | .serviceExit => 19
  | .park => 20
  | .parkExit => 21
  | .forceTest => 22
  | .tableWrite => 32
  | .tableData => 33
  | .tableRead => 34
  | .commit => 35
  | .cancelCommit => 36
  | .store => 37
  | .reload => 38
  | .selectAssortment => 48
  | .tare => 49
  | .fetchLift => 50
  | .readTally => 51
  | .clearTally => 52
  | .lineReset => 63

/-- Every command identifier of rule R168, in its table's order. -/
def allCommands : List CommandId :=
  [.assignAddress, .readStatus, .clearConditions, .guardStart, .guardStop, .serviceEnter, .serviceExit, .park, .parkExit,
   .forceTest, .tableWrite, .tableData, .tableRead, .commit, .cancelCommit, .store, .reload, .selectAssortment, .tare,
   .fetchLift, .readTally, .clearTally, .lineReset]

/-- The command a first payload byte names, if it names one (R158, R168). -/
def commandOfByte (b : Byte) : Option CommandId := allCommands.find? (fun c => commandCode c == b)

/-- The command a payload names by its first byte, if any (R156, R158). -/
def commandOfPayload (payload : Bytes) : Option CommandId := payload.head?.bind commandOfByte

/-- The COMMAND frame a command row's operand stands for (R168). -/
def commandFrame (c : CommandId) (p : Packet) : Frame :=
  { cls := classCommand, dest := p.dest, spare := p.spare, src := p.src, payload := commandCode c :: p.body }

end Sys2Proof.Machine
end

