-- ==== Sys2Proof/Machine/Tables.lean ====
section
/-! DEFINITION. The Table Set: its eight tables and their shapes (R134), the encoding of their entries (R170), how each
field is read from an entry, the factory defaults (R136) and the check of the image (R149). -/

namespace Sys2Proof.Machine

/-! ### The tables -/

/-- The eight tables of a Table Set (R134). -/
inductive TableId where
  | zoneMap | zoneClasses | stabilityGrid | capacityCurve | channelMap | valveMap | assortments | settings
  deriving DecidableEq, Repr

/-- The table id on the line (R134). -/
def TableId.number : TableId → Nat
  | .zoneMap => 1
  | .zoneClasses => 2
  | .stabilityGrid => 3
  | .capacityCurve => 4
  | .channelMap => 5
  | .valveMap => 6
  | .assortments => 7
  | .settings => 8

/-- Every table, in table id order. -/
def TableId.all : List TableId :=
  [.zoneMap, .zoneClasses, .stabilityGrid, .capacityCurve, .channelMap, .valveMap, .assortments, .settings]

/-- The table a table id names, if it is one of 1..8. -/
def TableId.ofNumber (n : Nat) : Option TableId := TableId.all.find? (fun t => t.number == n)

/-- Rows of a table (R134). -/
def TableId.rows : TableId → Nat
  | .zoneMap => 5
  | .stabilityGrid => 6
  | _ => 1

/-- Columns of a table (R134). -/
def TableId.cols : TableId → Nat
  | .zoneMap => 13
  | .zoneClasses => 8
  | .stabilityGrid => 12
  | .capacityCurve => 16
  | .channelMap => 8
  | .valveMap => 8
  | .assortments => 12
  | .settings => 20

/-- Entries of a table (R134). -/
def TableId.entries (t : TableId) : Nat := t.rows * t.cols

/-- Bytes of one entry (R170). -/
def TableId.entrySize : TableId → Nat
  | .zoneMap => 1
  | .zoneClasses => 4
  | .stabilityGrid => 1
  | .capacityCurve => 2
  | .channelMap => 6
  | .valveMap => 4
  | .assortments => 4
  | .settings => 4

/-- Where a table's bytes begin in the Table Set: the tables stand in id order (R149, R170). -/
def TableId.base : TableId → Nat
  | .zoneMap => 0
  | .zoneClasses => 65
  | .stabilityGrid => 97
  | .capacityCurve => 169
  | .channelMap => 201
  | .valveMap => 249
  | .assortments => 281
  | .settings => 329

/-- The bytes of a Table Set (R170). -/
def tableSetSize : Nat := 409

/-- One complete Table Set in its encoded form, as a bank and the image hold it: 409 bytes (R134, R170). -/
structure TableSet where
  /-- The tables in id order, each table's entries in entry index order. -/
  bytes : Bytes
  deriving DecidableEq, Repr

/-- The bytes of one table. -/
def TableSet.table (b : TableSet) (t : TableId) : Bytes := (b.bytes.drop t.base).take (t.entries * t.entrySize)

/-- The bytes of one entry as the bank holds them, spare bits included (R170). -/
def TableSet.entry (b : TableSet) (t : TableId) (idx : Nat) : Bytes :=
  (b.bytes.drop (t.base + idx * t.entrySize)).take t.entrySize

/-- The Table Set with one entry replaced; an index past the table's end changes nothing. -/
def TableSet.setEntry (b : TableSet) (t : TableId) (idx : Nat) (e : Bytes) : TableSet :=
  if idx < t.entries ∧ e.length = t.entrySize then
    let at_ := t.base + idx * t.entrySize
    ⟨b.bytes.take at_ ++ e ++ b.bytes.drop (at_ + t.entrySize)⟩
  else b

/-- Byte `k` of an entry (0 for an index past the table's end). -/
def TableSet.byte (b : TableSet) (t : TableId) (idx k : Nat) : Nat :=
  if idx < t.entries then u8At b.bytes (t.base + idx * t.entrySize + k) else 0

/-- The 16-bit field at byte `k` of an entry. -/
def TableSet.word (b : TableSet) (t : TableId) (idx k : Nat) : Nat := b.byte t idx k * 256 + b.byte t idx (k + 1)

/-! ### The fields of the entries (R170) -/

/-- A Zone Map entry (R12). -/
inductive ZoneEntry where
  /-- HEADER: whether the ring is open, and its starting class. -/
  | header (isOpen : Bool) (start : Nat)
  /-- PLAIN. -/
  | plain
  /-- CLASS with its class index. -/
  | cls (index : Nat)
  deriving DecidableEq, Repr

/-- The kind and fields of a Zone Map byte; none where its kind bits name no kind (R170). -/
def zoneEntryOfByte (n : Nat) : Option ZoneEntry :=
  match bitField n 5 3 with
  | 0 => some .plain
  | 1 => some (.cls (bitField n 0 4))
  | 2 => some (.header (bitField n 4 1 == 1) (bitField n 0 4))
  | _ => none

/-- Entry `e` (0..12) of the row of a ring (R12, R134). -/
def TableSet.zone (b : TableSet) (ring e : Nat) : Option ZoneEntry := zoneEntryOfByte (b.byte .zoneMap (ring * 13 + e) 0)

/-- An entry rule (R15). -/
inductive EntryRule where
  /-- OPEN. -/
  | openEntry
  /-- NO_ENTRY. -/
  | noEntry
  deriving DecidableEq, Repr

/-- The entry rule bits of a class record: 0 OPEN, 1 NO_ENTRY, others name none (R170). -/
def TableSet.classRuleBits (b : TableSet) (i : Nat) : Nat := bitField (b.byte .zoneClasses i 0) 0 2

/-- The entry rule of a class. Bits that name no rule, which validation refuses, read as NO_ENTRY (log 18). -/
def TableSet.classRule (b : TableSet) (i : Nat) : EntryRule := if b.classRuleBits i = 0 then .openEntry else .noEntry

/-- The bunk flag of a class (R15). -/
def TableSet.classBunk (b : TableSet) (i : Nat) : Bool := bitField (b.byte .zoneClasses i 0) 2 1 == 1

/-- The moment derate of a class, % (R15). -/
def TableSet.classDerate (b : TableSet) (i : Nat) : Nat := b.byte .zoneClasses i 1

/-- The speed cap of a class, permille (R15). -/
def TableSet.classCap (b : TableSet) (i : Nat) : Nat := b.word .zoneClasses i 2

/-- The stability derate of a tilt band and a fall sector, % (R21). -/
def TableSet.stability (b : TableSet) (band sector : Nat) : Nat := b.byte .stabilityGrid (band * 12 + sector) 0

/-- Point `i` of the Capacity Curve, kg (R22). -/
def TableSet.capacityPoint (b : TableSet) (i : Nat) : Nat := b.word .capacityCurve i 0

/-- The source of a Channel Map entry; 0 is unassigned (R121). -/
def TableSet.channelSource (b : TableSet) (q : Nat) : Nat := b.byte .channelMap q 0

/-- The channel of a Channel Map entry (R121). -/
def TableSet.channelNumber (b : TableSet) (q : Nat) : Nat := b.byte .channelMap q 1

/-- The zero of a Channel Map entry (R121). -/
def TableSet.channelZero (b : TableSet) (q : Nat) : Int := signed16 (b.word .channelMap q 2)

/-- The gain of a Channel Map entry (R121). -/
def TableSet.channelGain (b : TableSet) (q : Nat) : Nat := b.word .channelMap q 4

/-- The kinds of a Valve Map slot (R51). -/
inductive SlotKind where
  | unused | slew | boom | jib | ext | rotator | grapple | other
  deriving DecidableEq, Repr

/-- The kind byte of a slot: 0..7 (R170); others name none. -/
def slotKindOfByte (n : Nat) : Option SlotKind :=
  match n with
  | 0 => some .unused
  | 1 => some .slew
  | 2 => some .boom
  | 3 => some .jib
  | 4 => some .ext
  | 5 => some .rotator
  | 6 => some .grapple
  | 7 => some .other
  | _ => none

/-- The kind of a Valve Map slot. A byte that names no kind, which validation refuses, reads as UNUSED (log 18). -/
def TableSet.slotKind (b : TableSet) (i : Nat) : SlotKind := (slotKindOfByte (b.byte .valveMap i 0)).getD .unused

/-- The polarity of a slot: the signed byte (R51, R170). -/
def TableSet.slotPolarity (b : TableSet) (i : Nat) : Int :=
  let n := b.byte .valveMap i 1
  if n < 128 then (n : Int) else (n : Int) - 256

/-- The look step of a slot (R51). -/
def TableSet.slotLookStep (b : TableSet) (i : Nat) : Nat := b.word .valveMap i 2

/-- Whether a slot is of one of the four motion kinds (R51). -/
def TableSet.isMotion (b : TableSet) (i : Nat) : Bool :=
  match b.slotKind i with
  | .slew => true
  | .boom => true
  | .jib => true
  | .ext => true
  | .unused => false
  | .rotator => false
  | .grapple => false
  | .other => false

/-- Whether an assortment is enabled (R93). -/
def TableSet.assortmentEnabled (b : TableSet) (i : Nat) : Bool := bitField (b.byte .assortments i 0) 0 1 == 1

/-- The three characters of an assortment's code (R93). -/
def TableSet.assortmentCode (b : TableSet) (i : Nat) : Bytes := [1, 2, 3].map (fun k => byteOf (b.byte .assortments i k))

/-- The Settings entries, by name (R135). -/
inductive Setting where
  | bunkLimit | gripOn | gripOff | clearThreshold | clearFilter | weighWindow | tolerance | overloadFilter | releaseFilter
  | hysteresis | warn | staleTimeout | serviceCap | violationCap | l1 | l2 | defaultTare | attentionMask | bunkNear
  | valveAddress
  deriving DecidableEq, Repr

/-- The index of a Settings entry (R135). -/
def Setting.index : Setting → Nat
  | .bunkLimit => 0
  | .gripOn => 1
  | .gripOff => 2
  | .clearThreshold => 3
  | .clearFilter => 4
  | .weighWindow => 5
  | .tolerance => 6
  | .overloadFilter => 7
  | .releaseFilter => 8
  | .hysteresis => 9
  | .warn => 10
  | .staleTimeout => 11
  | .serviceCap => 12
  | .violationCap => 13
  | .l1 => 14
  | .l2 => 15
  | .defaultTare => 16
  | .attentionMask => 17
  | .bunkNear => 18
  | .valveAddress => 19

/-- The value of Settings entry `i`, unsigned 32-bit (R135). -/
def TableSet.settingAt (b : TableSet) (i : Nat) : Nat := b.word .settings i 0 * 65536 + b.word .settings i 2

/-- The value of a Settings entry. -/
def TableSet.setting (b : TableSet) (x : Setting) : Nat := b.settingAt x.index

/-! ### Factory defaults (R136) -/

/-- The default of each Settings entry, in index order (R135). -/
def settingDefaults : List Nat :=
  [14000, 600, 300, 60, 3, 16, 15, 5, 10, 50, 900, 100, 250, 100, 4200, 3300, 320, 33554431, 900, 0]

/-- The factory-default bytes of each table (R136, R170): spare bits 0. -/
def factoryTable : TableId → Bytes
  | .zoneMap => (List.replicate 5 (0x50#8 :: List.replicate 12 0x00#8)).flatten
  | .zoneClasses => (List.replicate 8 (0x00#8 :: byteOf 100 :: bytes16 1000)).flatten
  | .stabilityGrid => List.replicate 72 (byteOf 100)
  | .capacityCurve => List.replicate 32 0
  | .channelMap => (List.replicate 8 ([0, 0, 0, 0] ++ bytes16 1024)).flatten
  | .valveMap => (List.replicate 8 ([0, 1, 0, 0] : Bytes)).flatten
  | .assortments =>
    ((List.range 12).map (fun i => [byteOf (if i = 0 then 1 else 0), 48, byteOf (48 + i / 10), byteOf (48 + i % 10)])).flatten
  | .settings => (settingDefaults.map bytes32).flatten

/-- The factory-default Table Set (R136). -/
def factoryDefaults : TableSet := ⟨(TableId.all.map factoryTable).flatten⟩

/-! ### The image (R149) -/

/-- One shift of the image check register (R149, step 3): x¹² + x⁵ + 1 is 1021H. -/
def crc16Shift (r : BitVec 16) : BitVec 16 := if r.msb then (r <<< 1) ^^^ 0x1021#16 else r <<< 1

/-- One byte taken into the image check register (R149, steps 2 and 3). -/
def crc16Byte (r : BitVec 16) (b : Byte) : BitVec 16 := Nat.repeat crc16Shift 8 (r ^^^ (b ++ 0#8))

/-- The check over the bytes of a Table Set (R149). -/
def crc16 (bs : Bytes) : BitVec 16 := bs.foldl crc16Byte 0xFFFF#16

/-- The 411 bytes of an image that holds a Table Set and a check. Most significant byte of the check first (log 13). -/
def imageOf (b : TableSet) (check : BitVec 16) : Bytes := b.bytes ++ bytes16 check.toNat

/-- The Table Set an image holds. -/
def imageTables (image : Bytes) : TableSet := ⟨image.take tableSetSize⟩

/-- The check an image holds. -/
def imageCheck (image : Bytes) : BitVec 16 := BitVec.ofNat 16 (u16At image tableSetSize)

/-- Whether an image matches: its stored check equals the check over its stored Table Set (R149). -/
def imageMatches (image : Bytes) : Bool := imageCheck image == crc16 (imageTables image).bytes

/-- The bytes a store writes: the Table Set and the check computed over it (R151). -/
def writtenImage (b : TableSet) : Bytes := imageOf b (crc16 b.bytes)

/-- An image in which some bytes hold something else; an offset outside the image changes nothing. -/
def changeBytes (image : Bytes) (changes : List ByteChange) : Bytes :=
  changes.foldl (fun im c => im.set c.offset c.value) image

end Sys2Proof.Machine
end

