-- ==== Sys2Proof/Machine/State.lean ====
section
/-! DEFINITION. The state of the CW46, block by block as spec/00 lists them ("Functional blocks"), and the state right
after a power-on reset. Plain data. -/

namespace Sys2Proof.Machine

/-! ### Places in the tables -/

/-- A ring or a band: a number, or BEYOND (R1, R6, R9). -/
inductive Place where
  /-- Inside the table's range. -/
  | within (n : Nat)
  /-- Past the last row or band. -/
  | beyond
  deriving DecidableEq, Repr

/-- A cell as the lift context and the lift record hold it: ring and sector, or BEYOND (R68, R78). -/
inductive Cell where
  /-- Ring 0..4 and sector 0..11. -/
  | at_ (ring sector : Nat)
  /-- BEYOND: no ring and no sector. -/
  | beyond
  deriving DecidableEq, Repr

/-- The zone fields of a tip position or a look-ahead point (R14, R15, R16). -/
structure ZoneFields where
  /-- Cell class index, absent when the ring is BEYOND. -/
  cellClass : Option Nat
  /-- Effective rule. -/
  rule : EntryRule
  /-- Effective cap, permille. -/
  cap : Nat
  /-- Effective bunk flag. -/
  bunk : Bool
  /-- Class derate, %, absent when the ring is BEYOND. -/
  derate : Option Nat
  deriving DecidableEq, Repr

/-- The tip position record (R17). -/
structure TipPosition where
  /-- Slew, 0..3599. -/
  slew : Nat
  /-- Main boom angle a1. -/
  a1 : Int
  /-- Jib angle a2. -/
  a2 : Int
  /-- Extension e, mm. -/
  ext : Int
  /-- Reach, mm. -/
  reach : Nat
  /-- Ring. -/
  ring : Place
  /-- Sector, 0..11. -/
  sector : Nat
  /-- Cell class index, effective rule, cap and bunk flag, class derate. -/
  zone : ZoneFields
  /-- Tilt T, 0.1°. -/
  tilt : Nat
  /-- Band. -/
  band : Place
  /-- Fall azimuth, absent when T is below 20. -/
  fallAzimuth : Option Nat
  /-- Fall sector, absent when T is below 20. -/
  fallSector : Option Nat
  /-- Gross mass, kg. -/
  gross : Int
  /-- Net mass, kg. -/
  net : Nat
  /-- Grip pressure, 0.1 bar. -/
  grip : Int
  /-- Effective capacity, kg, absent when ring or band is BEYOND. -/
  capacity : Option Nat
  /-- Utilization, permille, absent with the effective capacity. -/
  utilization : Option Nat
  deriving DecidableEq, Repr

/-! ### Ports, Router and Command Unit -/

/-- What a frame of the cab-bound queue is: only the departure of the LINE RESET reply has an effect of its own
(R161; log 7). -/
inductive Origin where
  /-- Forwarded from the Crane Port. -/
  | forwarded
  /-- A reply of the Command Unit. -/
  | reply
  /-- The reply of the LINE RESET that is pending. -/
  | lineResetReply
  deriving DecidableEq, Repr

/-- A frame of the cab-bound queue or of the reply slot. -/
structure OutFrame where
  /-- The frame. -/
  frame : Frame
  /-- Where it came from. -/
  origin : Origin
  deriving DecidableEq, Repr

/-- The output queues of the two ports, oldest frame first (R113). -/
structure LinePorts where
  /-- The cab-bound queue, at the Cab Port (R115). -/
  cabQueue : List OutFrame
  /-- The crane-bound queue, at the Crane Port (R114). -/
  craneQueue : List Frame
  deriving DecidableEq, Repr

/-- The link states (R106). -/
inductive LinkState where
  | dark | linked
  deriving DecidableEq, Repr

/-- The Router's state (R106). -/
structure Router where
  /-- Node address: 0, or 1..30. -/
  nodeAddress : BitVec 5
  /-- Link state. -/
  link : LinkState
  /-- The chain-select output CSO; true is asserted. -/
  cso : Bool
  deriving DecidableEq, Repr

/-- The two walk orders (R138). -/
inductive WalkOrder where
  | rowFirst | columnFirst
  deriving DecidableEq, Repr

/-- An open table-write window (R137). -/
structure Window where
  /-- The table. -/
  table : TableId
  /-- First row. -/
  firstRow : Nat
  /-- Last row. -/
  lastRow : Nat
  /-- First column. -/
  firstCol : Nat
  /-- Last column. -/
  lastCol : Nat
  /-- Walk order. -/
  order : WalkOrder
  /-- Row of the write pointer. -/
  row : Nat
  /-- Column of the write pointer. -/
  col : Nat
  deriving DecidableEq, Repr

/-- The Command Unit's state (R116, R137, R160). -/
structure CommandUnit where
  /-- The table-write window; none is closed. -/
  window : Option Window
  /-- The reply slot. -/
  replySlot : Option OutFrame
  /-- Whether a line reset is pending. -/
  lineResetPending : Bool
  deriving DecidableEq, Repr

/-! ### Sample Assembler and Capacity Monitor -/

/-- An open sample set (R124): its slots stand in the order SLEW, BOOM, JIB, EXT, FORCE, GRIP, PITCH, ROLL. -/
structure OpenSet where
  /-- Sync sequence of the SYNC that opened it. -/
  sequence : Byte
  /-- The eight slots: empty, or a calibrated value. -/
  slots : List (Option Int)
  deriving DecidableEq, Repr

/-- A complete sample set (R127): eight calibrated values of one sample instant. -/
structure SampleSet where
  /-- SLEW, 0..3599. -/
  slew : Int
  /-- BOOM, a1. -/
  a1 : Int
  /-- JIB, a2. -/
  a2 : Int
  /-- EXT, e. -/
  ext : Int
  /-- FORCE, gross mass. -/
  force : Int
  /-- GRIP, grapple pressure. -/
  grip : Int
  /-- PITCH, p. -/
  pitch : Int
  /-- ROLL, r. -/
  roll : Int
  deriving DecidableEq, Repr

/-- The overload states (R28, R29). -/
inductive OverloadState where
  | normal | overload
  deriving DecidableEq, Repr

/-- The Capacity Monitor's state (R36). -/
structure CapacityMonitor where
  /-- Overload state. -/
  overload : OverloadState
  /-- Overload count. -/
  overloadCount : Nat
  /-- Release count. -/
  releaseCount : Nat
  deriving DecidableEq, Repr

/-! ### Envelope Guard -/

/-- The guard states (03, introduction). -/
inductive GuardState where
  | blocked | hold | enforce | service | park
  deriving DecidableEq, Repr

/-- The limit flags of a slot (R61). -/
inductive LimitFlag where
  | passed | capped | zeroedZone | zeroedLoad
  deriving DecidableEq, Repr

/-- The Envelope Guard's state (R64). -/
structure EnvelopeGuard where
  /-- Guard state. -/
  state : GuardState
  /-- Quiet flag. -/
  quiet : Bool
  /-- Warm-up count. -/
  warmUp : Nat
  /-- The sample watch timer: none is stopped, some d is running with the duration d ms it was started with (R41). -/
  watch : Option Nat
  /-- The SAMPLE_STALE cause (R43). -/
  stale : Bool
  /-- The eight limit flags, slot 0 first. -/
  limitFlags : List LimitFlag
  /-- Whether the force test is on. -/
  forceTest : Bool
  /-- The valve enable output VEN; true is asserted. -/
  ven : Bool
  deriving DecidableEq, Repr

/-! ### Lift Unit and Tally Unit -/

/-- The grapple states (R66). -/
inductive GrappleState where
  | opened | closed
  deriving DecidableEq, Repr

/-- The lift states (04, 4.3). -/
inductive LiftState where
  | empty | gripped | aloft | weighed
  deriving DecidableEq, Repr

/-- Weight, spread and weigh reach, which are present or absent together (R72, R78). -/
structure Weighing where
  /-- Weight, kg. -/
  weight : Nat
  /-- Spread, kg. -/
  spread : Nat
  /-- Weigh reach, mm. -/
  reach : Nat
  deriving DecidableEq, Repr

/-- The lift context (R68, R69). -/
structure LiftContext where
  /-- Assortment, 0..11. -/
  assortment : Nat
  /-- Grip cell. -/
  gripCell : Cell
  /-- Grip bunk flag. -/
  gripBunk : Bool
  /-- Band at grip. -/
  band : Place
  /-- OVERLOAD_SEEN. -/
  overloadSeen : Bool
  /-- HOLD_SEEN. -/
  holdSeen : Bool
  /-- Pick time, 10 ms units. -/
  pickTime : Option Nat
  /-- Weight, spread, weigh reach. -/
  weighing : Option Weighing
  deriving DecidableEq, Repr

/-- A tare search that is SEEKING (R83, R84). -/
structure TareSearch where
  /-- The tare window, oldest first: gross masses. -/
  window : List Int
  /-- The position count. -/
  count : Nat
  deriving DecidableEq, Repr

/-- The Lift Unit's state (R87). -/
structure LiftUnit where
  /-- Grapple state. -/
  grapple : GrappleState
  /-- Lift state. -/
  state : LiftState
  /-- Clear count. -/
  clearCount : Nat
  /-- Lift context. -/
  context : Option LiftContext
  /-- Weigh window, oldest first: net masses. -/
  window : List Nat
  /-- Lift timer, 10 ms units. -/
  timer : Nat
  /-- Whether the lift timer runs. -/
  timerRunning : Bool
  /-- Tare value, kg. -/
  tare : Nat
  /-- The tare search; none is NONE. -/
  search : Option TareSearch
  deriving DecidableEq, Repr

/-- The lift kinds (R77). -/
inductive LiftKind where
  | loaded | unloaded | reshuffled | returned | abandoned
  deriving DecidableEq, Repr

/-- A lift record (R78). -/
structure LiftRecord where
  /-- Sequence, assigned by the Tally Unit. -/
  sequence : BitVec 16
  /-- Kind. -/
  kind : LiftKind
  /-- Assortment. -/
  assortment : Nat
  /-- Weight, spread and weigh reach, present if the lift reached WEIGHED. -/
  weighing : Option Weighing
  /-- Grip cell. -/
  gripCell : Cell
  /-- Release cell, absent for ABANDONED. -/
  releaseCell : Option Cell
  /-- Band at grip. -/
  band : Place
  /-- Pick time, 10 ms units. -/
  pickTime : Nat
  /-- Lift time, 10 ms units. -/
  liftTime : Nat
  /-- OVERLOAD_SEEN. -/
  overloadSeen : Bool
  /-- HOLD_SEEN. -/
  holdSeen : Bool
  deriving DecidableEq, Repr

/-- One assortment tally (R88). -/
structure Tally where
  /-- Mass, kg. -/
  mass : Nat
  /-- Loaded lifts. -/
  loaded : Nat
  /-- Unloaded lifts. -/
  unloaded : Nat
  /-- Unweighed lifts. -/
  unweighed : Nat
  deriving DecidableEq, Repr

/-- The Tally Unit's state (R101). -/
structure TallyUnit where
  /-- The twelve tallies, index 0 first. -/
  tallies : List Tally
  /-- Selected assortment. -/
  selected : Nat
  /-- Work timer, 10 ms units. -/
  workTimer : Nat
  /-- Lift Record Queue, oldest first. -/
  records : List LiftRecord
  /-- Lift sequence counter. -/
  sequence : BitVec 16
  deriving DecidableEq, Repr

/-! ### Table Banks, Image Store and Condition Set -/

/-- The commit states (R143). -/
inductive CommitState where
  | none | pending
  deriving DecidableEq, Repr

/-- The Table Banks' state (R148). -/
structure TableBanks where
  /-- The active bank. -/
  active : TableSet
  /-- The staging bank. -/
  staging : TableSet
  /-- The active-valid flag. -/
  activeValid : Bool
  /-- The commit state. -/
  commit : CommitState
  deriving DecidableEq, Repr

/-- The store states (R149). -/
inductive StoreState where
  | idle | storing | reloading
  deriving DecidableEq, Repr

/-- The Image Store's state (R155). -/
structure ImageStore where
  /-- The nonvolatile image, 411 bytes (R149, R170). -/
  image : Bytes
  /-- The image-valid flag. -/
  imageValid : Bool
  /-- The store state. -/
  state : StoreState
  /-- Whether the image read of a reset is in progress (R105, R150). -/
  reading : Bool
  deriving DecidableEq, Repr

/-- The 25 conditions (R163). -/
inductive Condition where
  | powerOn | imageInvalid | crcCab | crcCrane | fwdDrop | commandLost | valveReject | sampleStale | outOfMap
  | zoneViolation | zoneStop | nearCapacity | overload | bunkNear | bunkFull | tallyUnderrun | queueOverflow | tareDone
  | tareFailed | swapDone | storeDone | storeFailed | serviceKeyLost | forced | liftAbandoned
  deriving DecidableEq, Repr

/-- The Condition Set's state (R163, R165). -/
structure ConditionSet where
  /-- The latched set; bit n is condition n. -/
  latched : BitVec 25
  /-- The attention output ATTN; true is asserted. -/
  attn : Bool
  deriving DecidableEq, Repr

/-! ### The machine -/

/-- The state of the CW46. -/
structure State where
  /-- Output queues of the ports. -/
  line : LinePorts
  /-- Router. -/
  router : Router
  /-- Command Unit. -/
  unit : CommandUnit
  /-- Sample Assembler: the open sample set. -/
  openSet : Option OpenSet
  /-- Geometry Unit: the latest tip position. -/
  tip : Option TipPosition
  /-- Capacity Monitor. -/
  capacity : CapacityMonitor
  /-- Envelope Guard. -/
  guard : EnvelopeGuard
  /-- Lift Unit. -/
  lift : LiftUnit
  /-- Tally Unit. -/
  tally : TallyUnit
  /-- Table Banks. -/
  banks : TableBanks
  /-- Image Store. -/
  store : ImageStore
  /-- Condition Set. -/
  conditions : ConditionSet
  /-- The input pins CSI and SKEY as last sampled (log 4). -/
  pins : Pins
  /-- The MODEL's own counter: how many free values have been drawn (log 11). -/
  freeDraws : Nat
  /-- The MODEL's own queue of the commands waiting, first in first out. -/
  pending : List Instr
  deriving DecidableEq, Repr

/-- The faults of the machine: none. No rule of the spec stops the CW46, so the type has no constructor. -/
inductive Fault where
  deriving DecidableEq, Repr

/-- The refusals of the machine. -/
inductive Refusal where
  /-- An arm of exec that has no meaning yet. No arm answers it: every row has its meaning. It would be safe (a run
  that stops proves nothing). -/
  | notModelled (mnemonic : String)
  deriving DecidableEq, Repr

/-! ### The state after reset -/

/-- All eight limit flags PASSED (R37, R64). -/
def allPassed : List LimitFlag := List.replicate 8 .passed

/-- A tally of all zeros (R101). -/
def zeroTally : Tally := ⟨0, 0, 0, 0⟩

/-- The Capacity Monitor after either reset (R36). -/
def CapacityMonitor.reset : CapacityMonitor := ⟨.normal, 0, 0⟩

/-- The Envelope Guard after either reset (R64). -/
def EnvelopeGuard.reset : EnvelopeGuard where
  state := .blocked
  quiet := true
  warmUp := 0
  watch := none
  stale := false
  limitFlags := allPassed
  forceTest := false
  ven := false

/-- The Lift Unit after either reset (R87); the tare value is set at the end of the image read (R86, log 9). -/
def LiftUnit.reset (tare : Nat) : LiftUnit where
  grapple := .opened
  state := .empty
  clearCount := 0
  context := none
  window := []
  timer := 0
  timerRunning := false
  tare := tare
  search := none

/-- The Tally Unit after a power-on reset (R101). -/
def TallyUnit.reset : TallyUnit where
  tallies := List.replicate 12 zeroTally
  selected := 0
  workTimer := 0
  records := []
  sequence := 0

/-- The Command Unit after either reset (R118, R148, R161). -/
def CommandUnit.reset : CommandUnit := ⟨none, none, false⟩

/-- The machine right after a power-on reset, its image read in progress (R162, R36, R64, R87, R101, R106, R118, R132,
R148, R155, R166). The image, the banks, the two valid flags, the tare value and the input pins have values the model
names (log 4, log 8, log 10); nothing reads them before the image read ends. -/
def State.reset : State where
  line := ⟨[], []⟩
  router := ⟨0, .dark, false⟩
  unit := CommandUnit.reset
  openSet := none
  tip := none
  capacity := CapacityMonitor.reset
  guard := EnvelopeGuard.reset
  lift := LiftUnit.reset 320
  tally := TallyUnit.reset
  banks := ⟨factoryDefaults, factoryDefaults, false, .none⟩
  store := ⟨List.replicate 411 0, false, .idle, true⟩
  conditions := ⟨1, false⟩
  pins := ⟨false, false⟩
  freeDraws := 0
  pending := []

end Sys2Proof.Machine
end

