-- ==== Sys2Proof/Machine/Flags.lean ====
section
/-! DEFINITION. The Condition Set (R163 to R166): latching, the causes of the persistent conditions, the present set,
ATTN; and the valve enable output VEN (R38). -/

namespace Sys2Proof.Machine

/-- The number of a condition: its bit in every mask and set (R163). -/
def Condition.bit : Condition → Nat
  | .powerOn => 0
  | .imageInvalid => 1
  | .crcCab => 2
  | .crcCrane => 3
  | .fwdDrop => 4
  | .commandLost => 5
  | .valveReject => 6
  | .sampleStale => 7
  | .outOfMap => 8
  | .zoneViolation => 9
  | .zoneStop => 10
  | .nearCapacity => 11
  | .overload => 12
  | .bunkNear => 13
  | .bunkFull => 14
  | .tallyUnderrun => 15
  | .queueOverflow => 16
  | .tareDone => 17
  | .tareFailed => 18
  | .swapDone => 19
  | .storeDone => 20
  | .storeFailed => 21
  | .serviceKeyLost => 22
  | .forced => 23
  | .liftAbandoned => 24

/-- The set that holds one condition alone. -/
def Condition.mask (c : Condition) : BitVec 25 := BitVec.twoPow 25 c.bit

/-- The persistent conditions, in bit order (R163). -/
def persistentConditions : List Condition :=
  [.imageInvalid, .sampleStale, .outOfMap, .zoneViolation, .nearCapacity, .overload, .bunkNear, .bunkFull, .forced]

/-- Whether a condition is latched. -/
def State.isLatched (s : State) (c : Condition) : Bool := s.conditions.latched.getLsbD c.bit

/-- A condition latches; a latch that is already standing stays (R163). -/
def State.latch (s : State) (c : Condition) : State :=
  { s with conditions := { s.conditions with latched := s.conditions.latched ||| c.mask } }

/-- A persistent condition is judged: it latches where its cause is present (R163; log 21). -/
def State.judge (s : State) (c : Condition) (cause : Bool) : State := if cause then s.latch c else s

/-! ### The causes of the persistent conditions (R163, second table) -/

/-- The bunk total: the sum of the 12 mass tallies (R88). -/
def TallyUnit.bunkTotal (t : TallyUnit) : Nat := (t.tallies.map (·.mass)).sum

/-- The cause of BUNK_NEAR (R92). -/
def State.bunkNearCause (s : State) : Bool :=
  s.banks.active.setting .bunkLimit * s.banks.active.setting .bunkNear ≤ s.tally.bunkTotal * 1000

/-- The cause of BUNK_FULL (R92). -/
def State.bunkFullCause (s : State) : Bool := s.banks.active.setting .bunkLimit ≤ s.tally.bunkTotal

/-- The cause of NEAR_CAPACITY: the latest U is present and at or above warn (R33). -/
def State.nearCapacityCause (s : State) : Bool :=
  match s.tip.bind (·.utilization) with
  | some u => s.banks.active.setting .warn ≤ u
  | none => false

/-- The cause of OUT_OF_MAP: the latest tip position's band is BEYOND (R19). -/
def State.outOfMapCause (s : State) : Bool :=
  match s.tip with
  | some t => t.band == .beyond
  | none => false

/-- The cause of ZONE_VIOLATION: the latest tip position's effective rule is NO_ENTRY (R19). -/
def State.zoneViolationCause (s : State) : Bool :=
  match s.tip with
  | some t => t.zone.rule == .noEntry
  | none => false

/-- Whether the cause of a condition is present; an event condition has none (R163). -/
def State.cause (s : State) : Condition → Bool
  | .imageInvalid => !s.store.imageValid
  | .sampleStale => s.guard.stale
  | .outOfMap => s.outOfMapCause
  | .zoneViolation => s.zoneViolationCause
  | .nearCapacity => s.nearCapacityCause
  | .overload => s.capacity.overload == .overload
  | .bunkNear => s.bunkNearCause
  | .bunkFull => s.bunkFullCause
  | .forced => s.guard.forceTest
  | .powerOn | .crcCab | .crcCrane | .fwdDrop | .commandLost | .valveReject | .zoneStop | .tallyUnderrun
  | .queueOverflow | .tareDone | .tareFailed | .swapDone | .storeDone | .storeFailed | .serviceKeyLost
  | .liftAbandoned => false

/-- The present set: one flag for each condition whose cause is present (R159). -/
def State.presentSet (s : State) : BitVec 25 :=
  persistentConditions.foldl (fun acc c => if s.cause c then acc ||| c.mask else acc) 0

/-- The Tally Unit judges BUNK_NEAR and BUNK_FULL (R92). -/
def State.judgeBunk (s : State) : State :=
  (s.judge .bunkNear s.bunkNearCause).judge .bunkFull s.bunkFullCause

/-- What a clear with a mask leaves latched: event conditions named by it are cleared, and so are persistent ones whose
cause is not present (R164). -/
def clearedSet (latched mask present : BitVec 25) : BitVec 25 := latched &&& ~~~(mask &&& ~~~present)

/-! ### ATTN and VEN -/

/-- The level rule R165 gives ATTN; deasserted from a reset until its image read ends. -/
def State.attnLevel (s : State) : Bool :=
  !s.store.reading &&
    (s.guard.forceTest
      || s.conditions.latched &&& BitVec.ofNat 25 (s.banks.active.setting .attentionMask) != 0)

/-- The Condition Set drives ATTN (R165). Every event ends with this. -/
def State.driveAttn (s : State) : State := { s with conditions := { s.conditions with attn := s.attnLevel } }

/-- The level rule R38 gives VEN. -/
def venLevel (g : GuardState) (forceTest : Bool) : Bool :=
  (g == .hold || g == .enforce || g == .service) && !forceTest

/-- The Envelope Guard drives VEN (R38). -/
def State.driveVen (s : State) : State :=
  { s with guard := { s.guard with ven := venLevel s.guard.state s.guard.forceTest } }

/-- The outcome of an event: the state it leaves, with ATTN driven (R165). -/
def finish (s : State) : Host.Outcome State Fault Refusal := .next s.driveAttn

end Sys2Proof.Machine
end

