-- ==== Sys2Proof/Machine/Geometry.lean ====
section
/-! DEFINITION. The Geometry Unit (spec/01): cosine factors, reach, ring and sector, tilt, band, fall azimuth and fall
sector, the Zone Map walk and the effective zone fields, and the tip position record before its capacity is filled in. -/

namespace Sys2Proof.Machine

/-! ### Cosine factors (R4)

The table of R4 is computed rather than listed: cosine and sine are evaluated in fixed point with 18 decimals by their
power series on 0..45°, and the factor is rounded from them. No factor's exact value lies within 0.0005 of a half-integer,
so 18 decimals decide every rounding (DEDUCED; log 19). Angles are taken in half units of 0.05°. -/

/-- One, in fixed point with 18 decimals. -/
def fixedOne : Nat := 1000000000000000000

/-- π in fixed point with 18 decimals. -/
def fixedPi : Nat := 3141592653589793238

/-- The cosine series 1 − x²/(1·2)·(1 − x²/(3·4)·(1 − …)), `n` levels deep from level `j`; `x2` is x². -/
def cosSeries (x2 : Nat) : Nat → Nat → Nat
  | 0, _ => fixedOne
  | n + 1, j => fixedOne - x2 * cosSeries x2 n (j + 1) / (fixedOne * ((2 * j - 1) * (2 * j)))

/-- The series of sin x / x: 1 − x²/(2·3)·(1 − x²/(4·5)·(1 − …)). -/
def sinSeries (x2 : Nat) : Nat → Nat → Nat
  | 0, _ => fixedOne
  | n + 1, j => fixedOne - x2 * sinSeries x2 n (j + 1) / (fixedOne * ((2 * j) * (2 * j + 1)))

/-- An angle of `h` units of 0.05° in radians, fixed point. -/
def halfUnitAngle (h : Nat) : Nat := h * fixedPi / 3600

/-- The square of an angle, fixed point. -/
def squareAngle (x : Nat) : Nat := x * x / fixedOne

/-- The cosine of `h` units of 0.05°, for `h` in 0..1800 (0..90°), fixed point. -/
def fixedCos (h : Nat) : Nat :=
  if h ≤ 900 then cosSeries (squareAngle (halfUnitAngle h)) 10 1
  else
    let x := halfUnitAngle (1800 - h)
    x * sinSeries (squareAngle x) 10 1 / fixedOne

/-- The sine of `h` units of 0.05°, for `h` in 0..1800, fixed point. -/
def fixedSin (h : Nat) : Nat := fixedCos (1800 - h)

/-- The integer nearest to 32768 × cos θ, for θ in 0..900 units of 0.1°. -/
def quadrantFactor (θ : Nat) : Nat := (2 * 32768 * fixedCos (2 * θ) + fixedOne) / (2 * fixedOne)

/-- The cosine factor of an angle in 0.1° (R4): even in the angle, repeating every 3600, halves away from zero. -/
def cosFactor (angle : Int) : Int :=
  let n := (angle % 3600).toNat
  if n ≤ 900 then quadrantFactor n
  else if n ≤ 1800 then -(quadrantFactor (1800 - n) : Int)
  else if n ≤ 2700 then -(quadrantFactor (n - 1800) : Int)
  else quadrantFactor (3600 - n)

/-! ### Reach, ring and sector (R5, R6, R7) -/

/-- The sum S of rule R5. -/
def reachSum (l1 l2 : Nat) (a1 a2 ext : Int) : Int := (l1 : Int) * cosFactor a1 + ((l2 : Int) + ext) * cosFactor (a1 + a2)

/-- The reach: 0 where S is zero or negative, S div 32768 otherwise (R5). -/
def reachOf (l1 l2 : Nat) (a1 a2 ext : Int) : Nat :=
  let s := reachSum l1 l2 a1 a2 ext
  if s ≤ 0 then 0 else (s / 32768).toNat

/-- The ring of a reach (R6). -/
def ringOf (reach : Nat) : Place := if reach < 10000 then .within (reach / 2000) else .beyond

/-- The sector of a slew (R7). -/
def sectorOf (slew : Nat) : Nat := slew / 300

/-! ### Tilt, band, fall azimuth and fall sector (R8, R9, R10) -/

/-- The powers of two tried, largest first, in a search for a number below 1024. -/
def searchBits : List Nat := [512, 256, 128, 64, 32, 16, 8, 4, 2, 1]

/-- The largest number below 1024 that satisfies a downward-closed test which 0 satisfies. -/
def largest (test : Nat → Bool) : Nat := searchBits.foldl (fun k b => if test (k + b) then k + b else k) 0

/-- The tilt T: 0 at level, otherwise the T with T² − T + 1 ≤ p² + r² ≤ T² + T (R8). -/
def tiltOf (pitch roll : Int) : Nat :=
  let n := (pitch * pitch + roll * roll).toNat
  largest (fun t => t * t - t < n)

/-- The band of a tilt (R9). -/
def bandOf (tilt : Nat) : Place := if tilt < 420 then .within (tilt / 70) else .beyond

/-- The direction of a vector with x > 0 and y ≥ 0 in 0..900, in 0.1°, rounded to the nearest with halves up: the largest
n for which the direction is at or past n − ½. -/
def quadrantDirection (x y : Nat) : Nat :=
  largest (fun n => n ≤ 900 && x * fixedSin (2 * n - 1) ≤ y * fixedCos (2 * n - 1))

/-- The direction of the vector with the given forward and leftward components, counter-clockwise from forward, rounded to
the nearest 0.1° and reduced into 0..3599. The zero vector has direction 0. -/
def directionOf (forward left : Int) : Nat :=
  let q (turns : Nat) (x y : Int) : Nat := (turns * 900 + quadrantDirection x.toNat y.toNat) % 3600
  if 0 < forward ∧ 0 ≤ left then q 0 forward left
  else if forward ≤ 0 ∧ 0 < left then q 1 left (-forward)
  else if forward < 0 ∧ left ≤ 0 then q 2 (-forward) (-left)
  else if 0 ≤ forward ∧ left < 0 then q 3 (-left) forward
  else 0

/-- The fall azimuth: present when T is 20 or more (R10). -/
def fallAzimuthOf (tilt : Nat) (pitch roll : Int) : Option Nat :=
  if 20 ≤ tilt then some (directionOf (-pitch) (-roll)) else none

/-- The fall sector of a slew against a fall azimuth (R10). -/
def fallSectorOf (slew azimuth : Nat) : Nat := ((slew + 3600 - azimuth) % 3600) / 300

/-! ### The Zone Map and the zone fields (R13 to R16) -/

/-- One step of the walk: a CLASS entry replaces the current class, a PLAIN entry leaves it (R13). -/
def walkStep (b : TableSet) (ring : Nat) (current entry : Nat) : Nat :=
  match b.zone ring entry with
  | some (.cls i) => i
  | _ => current

/-- The starting class of a ring's header (R13). -/
def startClass (b : TableSet) (ring : Nat) : Nat :=
  match b.zone ring 0 with
  | some (.header _ start) => start
  | _ => 0

/-- Whether a ring's header says the ring is open (R14). -/
def ringOpen (b : TableSet) (ring : Nat) : Bool :=
  match b.zone ring 0 with
  | some (.header isOpen _) => isOpen
  | _ => false

/-- The walk of a ring's row from its header to the entry of a sector: entries 1 up to sector + 1 in ascending order
(R13). -/
def walkClass (b : TableSet) (ring sector : Nat) : Nat :=
  ((List.range (sector + 1)).map (· + 1)).foldl (walkStep b ring) (startClass b ring)

/-- The zone fields of a position outside every cell (R16). -/
def beyondZone : ZoneFields := ⟨none, .noEntry, 0, false, none⟩

/-- The zone fields of a cell of an open ring, from the class record the walk resolved (R15). -/
def openZone (b : TableSet) (index : Nat) : ZoneFields where
  cellClass := some index
  rule := b.classRule index
  cap := match b.classRule index with
    | .openEntry => b.classCap index
    | .noEntry => 0
  bunk := b.classBunk index
  derate := some (b.classDerate index)

/-- The zone fields of a cell of a closed ring (R14). -/
def closedZone (b : TableSet) (index : Nat) : ZoneFields := ⟨some index, .noEntry, 0, false, some (b.classDerate index)⟩

/-- The zone fields of a ring and sector (R13 to R16). -/
def zoneOf (b : TableSet) (ring : Place) (sector : Nat) : ZoneFields :=
  match ring with
  | .beyond => beyondZone
  | .within r =>
    if ringOpen b r then openZone b (walkClass b r sector) else closedZone b (walkClass b r sector)

/-! ### The tip position record (R2, R11, R17) -/

/-- The record the Geometry Unit computes from a complete set, the active bank and the tare value; the Capacity Monitor
fills its last two fields (R2, R4 to R17). -/
def geometryRecord (b : TableSet) (tare : Nat) (x : SampleSet) : TipPosition :=
  let slew := x.slew.toNat
  let reach := reachOf (b.setting .l1) (b.setting .l2) x.a1 x.a2 x.ext
  let tilt := tiltOf x.pitch x.roll
  let azimuth := fallAzimuthOf tilt x.pitch x.roll
  { slew := slew
    a1 := x.a1
    a2 := x.a2
    ext := x.ext
    reach := reach
    ring := ringOf reach
    sector := sectorOf slew
    zone := zoneOf b (ringOf reach) (sectorOf slew)
    tilt := tilt
    band := bandOf tilt
    fallAzimuth := azimuth
    fallSector := azimuth.map (fallSectorOf slew)
    gross := x.force
    net := (x.force - (tare : Int)).toNat
    grip := x.grip
    capacity := none
    utilization := none }

/-! ### Look-ahead points (R20) -/

/-- A look-ahead point (R20). -/
structure PointRecord where
  /-- Reach. -/
  reach : Nat
  /-- Ring. -/
  ring : Place
  /-- Sector. -/
  sector : Nat
  /-- Zone fields. -/
  zone : ZoneFields
  /-- Band, from the latest tip position. -/
  band : Place
  /-- Fall sector, absent with the tip's fall azimuth. -/
  fallSector : Option Nat
  /-- Effective capacity, filled in by the Capacity Monitor (R34). -/
  capacity : Option Nat
  /-- Utilization, filled in by the Capacity Monitor (R34). -/
  utilization : Option Nat
  deriving DecidableEq, Repr

/-- The point with the given four joint values, resolved against the tables as they stand (R20). -/
def resolvePoint (b : TableSet) (tip : TipPosition) (slew : Nat) (a1 a2 ext : Int) : PointRecord :=
  let reach := reachOf (b.setting .l1) (b.setting .l2) a1 a2 ext
  { reach := reach
    ring := ringOf reach
    sector := sectorOf slew
    zone := zoneOf b (ringOf reach) (sectorOf slew)
    band := tip.band
    fallSector := tip.fallAzimuth.map (fallSectorOf slew)
    capacity := none
    utilization := none }

end Sys2Proof.Machine
end

