-- ==== Sys2Proof/Machine/Capacity.lean ====
section
/-! DEFINITION. The Capacity Monitor (spec/02): capacity at a reach, stability derate, effective capacity, utilization, the
overload filter, its work on a tip position and on a look-ahead point. -/

namespace Sys2Proof.Machine

/-- The capacity at a reach below 10000 mm: straight-line interpolation, truncating toward zero (R23). -/
def capacityAt (b : TableSet) (reach : Nat) : Nat :=
  if reach < 9375 then
    let i := reach / 625
    let d := reach - 625 * i
    let p := b.capacityPoint i
    let q := b.capacityPoint (i + 1)
    ((p : Int) + (((q : Int) - (p : Int)) * (d : Int)).tdiv 625).toNat
  else b.capacityPoint 15

/-- The smallest of the twelve entries of row 0 of the Stability Grid (R24). -/
def levelDerate (b : TableSet) : Nat := ((List.range 12).map (b.stability 0)).foldl min (b.stability 0 0)

/-- The stability derate of a band and a fall sector; without a fall sector, the level-machine derate (R24). -/
def stabilityDerate (b : TableSet) (band : Nat) (fallSector : Option Nat) : Nat :=
  match fallSector with
  | some f => b.stability band f
  | none => levelDerate b

/-- The effective capacity: present when ring and band lie inside the tables (R25). -/
def effectiveCapacity (b : TableSet) (reach : Nat) (ring band : Place) (derate fallSector : Option Nat) : Option Nat :=
  match ring, band, derate with
  | .within _, .within n, some d => some (capacityAt b reach * d * stabilityDerate b n fallSector / 10000)
  | _, _, _ => none

/-- The utilization for an effective capacity and a net mass (R26). -/
def utilizationOf (ceff net : Nat) : Nat :=
  if ceff = 0 then (if net = 0 then 0 else 2000) else min (net * 1000 / ceff) 2000

/-- Step 1 of the Capacity Monitor's work: effective capacity and utilization are written into the record (R27). -/
def withCapacity (b : TableSet) (t : TipPosition) : TipPosition :=
  let c := effectiveCapacity b t.reach t.ring t.band t.zone.derate t.fallSector
  { t with capacity := c, utilization := c.map (fun ceff => utilizationOf ceff t.net) }

/-- The look-ahead point with the effective capacity and the utilization written into it, the latter from the net mass of
the latest tip position (R34). -/
def evaluatePoint (b : TableSet) (tip : TipPosition) (p : PointRecord) : PointRecord :=
  let c := effectiveCapacity b p.reach p.ring p.band p.zone.derate p.fallSector
  { p with capacity := c, utilization := c.map (fun ceff => utilizationOf ceff tip.net) }

/-! ### The overload filter (R28 to R31) -/

/-- A count that saturates at 50 rises by one (R28, R29). -/
def countUp (n : Nat) : Nat := min (n + 1) 50

/-- The release threshold (R29). -/
def releaseThreshold (b : TableSet) : Int := 1000 - (b.setting .hysteresis : Int)

/-- The filter on a record whose utilization is `u` (R28, R29). -/
def filterStep (b : TableSet) (u : Nat) (m : CapacityMonitor) : CapacityMonitor :=
  match m.overload with
  | .normal =>
    if 1000 < u then
      if b.setting .overloadFilter ≤ countUp m.overloadCount then ⟨.overload, 0, 0⟩
      else { m with overloadCount := countUp m.overloadCount }
    else { m with overloadCount := 0 }
  | .overload =>
    if (u : Int) ≤ releaseThreshold b then
      if b.setting .releaseFilter ≤ countUp m.releaseCount then ⟨.normal, 0, 0⟩
      else { m with releaseCount := countUp m.releaseCount }
    else { m with releaseCount := 0 }

/-- The filter on a record: one without utilization leaves state and counts as they were (R30). -/
def overloadFilter (b : TableSet) (u : Option Nat) (m : CapacityMonitor) : CapacityMonitor :=
  match u with
  | some v => filterStep b v m
  | none => m

/-! ### The work on a tip position (R3, R18, R19, R27, R32, R33) -/

/-- A newly computed record goes through the Capacity Monitor and becomes the latest tip position; the two position
conditions and the two capacity conditions are judged on it (R3, R19, R27, R32, R33). -/
def State.takeRecord (t : TipPosition) (s : State) : State :=
  let record := withCapacity s.banks.active t
  let s := { s with
    capacity := overloadFilter s.banks.active record.utilization s.capacity
    tip := some record }
  let s := s.judge .outOfMap s.outOfMapCause
  let s := s.judge .zoneViolation s.zoneViolationCause
  let s := s.judge .overload (s.capacity.overload == .overload)
  s.judge .nearCapacity s.nearCapacityCause

end Sys2Proof.Machine
end

