-- ==== Sys2Proof/Machine/Tally.lean ====
section
/-! DEFINITION. The Tally Unit (spec/05): booking a lift record, the bunk conditions, the Lift Record Queue, the selection
at a swap, and the two timers' ticks of the Tally Unit and the Lift Unit (R81, R95). -/

namespace Sys2Proof.Machine

/-- The largest mass a tally holds, kg (R88). -/
def massLimit : Nat := 999999

/-- The largest count a tally holds (R88). -/
def countLimit : Nat := 65535

/-- How many records the Lift Record Queue holds (R99). -/
def recordLimit : Nat := 24

/-- A tally count rises by one and stops at 65,535 (R88). -/
def addCount (n : Nat) : Nat := min (n + 1) countLimit

/-- A LOADED record in the tally of its assortment (R90). -/
def Tally.book_loaded (t : Tally) (weight : Option Nat) : Tally :=
  match weight with
  | some w => { t with mass := min (t.mass + w) massLimit, loaded := addCount t.loaded }
  | none => { t with loaded := addCount t.loaded, unweighed := addCount t.unweighed }

/-- An UNLOADED record in the tally of its assortment; the mass stops at 0 (R90, R91). -/
def Tally.book_unloaded (t : Tally) (weight : Option Nat) : Tally :=
  match weight with
  | some w => { t with mass := t.mass - w, unloaded := addCount t.unloaded }
  | none => { t with unloaded := addCount t.unloaded, unweighed := addCount t.unweighed }

/-- The tally of an assortment. -/
def TallyUnit.tallyOf (u : TallyUnit) (i : Nat) : Tally := u.tallies.getD i zeroTally

/-- A record changes only the tally of the assortment it names (R90). -/
def TallyUnit.book (u : TallyUnit) (r : LiftRecord) : TallyUnit :=
  let weight := r.weighing.map (·.weight)
  match r.kind with
  | .loaded => { u with tallies := u.tallies.set r.assortment ((u.tallyOf r.assortment).book_loaded weight) }
  | .unloaded => { u with tallies := u.tallies.set r.assortment ((u.tallyOf r.assortment).book_unloaded weight) }
  | .reshuffled => u
  | .returned => u
  | .abandoned => u

/-- Whether a record's booking is an underrun: UNLOADED, weighed, and heavier than the tally's mass (R91). -/
def TallyUnit.underrun (u : TallyUnit) (r : LiftRecord) : Bool :=
  match r.kind, r.weighing with
  | .unloaded, some w => (u.tallyOf r.assortment).mass < w.weight
  | _, _ => false

/-- Step 4: the record is appended, or dropped with QUEUE_OVERFLOW (R99). -/
def State.queueRecord (r : LiftRecord) (s : State) : State :=
  if s.tally.records.length < recordLimit then
    { s with tally := { s.tally with records := s.tally.records ++ [r] } }
  else s.latch .queueOverflow

/-- The Tally Unit takes a finished record: sequence, booking, bunk, queue (R89). -/
def State.bookRecord (r : LiftRecord) (s : State) : State :=
  let r := { r with sequence := s.tally.sequence }
  let under := s.tally.underrun r
  let s := { s with tally := { s.tally.book r with sequence := s.tally.sequence + 1 } }
  let s := if under then s.latch .tallyUnderrun else s
  s.judgeBunk.queueRecord r

/-- The selection at a swap: a disabled assortment gives way to 0 (R94). -/
def selectionAfterSwap (active : TableSet) (selected : Nat) : Nat :=
  if active.assortmentEnabled selected then selected else 0

/-! ### The 10 ms ticks (R81, R95) -/

/-- Where the lift timer stops counting (R81). -/
def liftTimerLimit : Nat := 1048575

/-- Where the work timer stops counting (R95). -/
def workTimerLimit : Nat := 4294967295

/-- Whether the work timer runs: in ENFORCE while quiet is false (R95). -/
def State.workTimerRuns (s : State) : Bool := s.guard.state == .enforce && !s.guard.quiet

/-- LIFT_TIMER_TICK: 10 ms have passed; the lift timer advances by one while it runs and stops at 1,048,575 (R81). -/
def execLiftTimerTick (s : State) : Host.Outcome State Fault Refusal :=
  finish (if s.lift.timerRunning then
    { s with lift := { s.lift with timer := min (s.lift.timer + 1) liftTimerLimit } }
  else s)

/-- WORK_TIMER_TICK: the running time has grown by 10 ms; the work timer advances by one while it runs and stops at
4,294,967,295 (R95). -/
def execWorkTimerTick (s : State) : Host.Outcome State Fault Refusal :=
  finish (if s.workTimerRuns then
    { s with tally := { s.tally with workTimer := min (s.tally.workTimer + 1) workTimerLimit } }
  else s)

end Sys2Proof.Machine
end

