-- ==== Sys2Proof/Machine/Banks.lean ====
section
/-! DEFINITION. The Table Banks (spec/08): validation (R142), the rest point (R62), the swap (R145), the attempt of a
pending commit (R144), and the walk of the write window (R138). -/

namespace Sys2Proof.Machine

/-! ### Validation (R142) -/

/-- Whether `n` lies in `lo`..`hi`. -/
def inRange (lo hi n : Nat) : Bool := lo ≤ n && n ≤ hi

/-- Whether a Zone Map entry fails (R12, R142): HEADER alone at entry 0, PLAIN or CLASS elsewhere, classes 0..7. -/
def zoneFails (b : TableSet) (i : Nat) : Bool :=
  match zoneEntryOfByte (b.byte .zoneMap i 0), decide (i % 13 = 0) with
  | some (.header _ start), true => !inRange 0 7 start
  | some .plain, false => false
  | some (.cls c), false => !inRange 0 7 c
  | _, _ => true

/-- Whether a class record fails (R15, R142). -/
def classFails (b : TableSet) (i : Nat) : Bool :=
  2 ≤ b.classRuleBits i || (b.classRuleBits i == 1 && b.classBunk i) || 1000 < b.classCap i || !inRange 1 100 (b.classDerate i)

/-- Whether a Stability Grid entry fails (R21, R142). -/
def stabilityFails (b : TableSet) (i : Nat) : Bool := !inRange 1 100 (b.byte .stabilityGrid i 0)

/-- Whether a Capacity Curve point fails (R22, R142). -/
def capacityFails (b : TableSet) (i : Nat) : Bool :=
  20000 < b.capacityPoint i || (i == 0 && b.capacityPoint 0 == 0) || (i != 0 && b.capacityPoint (i - 1) < b.capacityPoint i)

/-- Whether two Channel Map entries have the same source and the same channel. -/
def sameChannel (b : TableSet) (i j : Nat) : Bool :=
  b.channelSource i == b.channelSource j && b.channelNumber i == b.channelNumber j

/-- Whether a Channel Map entry fails (R121, R142). -/
def channelFails (b : TableSet) (i : Nat) : Bool :=
  !inRange 1 30 (b.channelSource i) || 15 < b.channelNumber i || b.channelGain i == 0 || (List.range i).any (sameChannel b i)

/-- The four motion kinds (R51). -/
def motionKinds : List SlotKind := [.slew, .boom, .jib, .ext]

/-- The range of the look step of a motion kind (R51). -/
def lookStepFails (k : SlotKind) (step : Nat) : Bool :=
  match k with
  | .slew => !inRange 5 300 step
  | .boom => !inRange 5 300 step
  | .jib => !inRange 5 300 step
  | .ext => !inRange 10 500 step
  | .unused => false
  | .rotator => false
  | .grapple => false
  | .other => false

/-- Whether a Valve Map slot fails (R51, R142). -/
def valveFails (b : TableSet) (i : Nat) : Bool :=
  match slotKindOfByte (b.byte .valveMap i 0) with
  | none => true
  | some k =>
    (b.slotPolarity i != 1 && b.slotPolarity i != -1)
      || (b.isMotion i && (List.range i).any (fun j => b.slotKind j == k))
      || lookStepFails k (b.slotLookStep i)
      || (i == 7 && motionKinds.any (fun m => (List.range 8).all (fun j => b.slotKind j != m)))

/-- Whether a byte is one of A..Z and 0..9 (R93, R170). -/
def codeCharacter (n : Nat) : Bool := inRange 48 57 n || inRange 65 90 n

/-- Whether an Assortments entry fails (R93, R142). -/
def assortmentFails (b : TableSet) (i : Nat) : Bool :=
  (i == 0 && !b.assortmentEnabled 0) || !([1, 2, 3].all (fun k => codeCharacter (b.byte .assortments i k)))

/-- Whether a Settings entry fails its range (R135, R142). `node` is the Router's node address. -/
def settingFails (b : TableSet) (node : Nat) (i : Nat) : Bool :=
  let v := b.settingAt i
  match i with
  | 0 => !inRange 1000 40000 v
  | 1 => !inRange 50 2500 v
  | 2 => !(20 ≤ v && v + 10 ≤ b.setting .gripOn)
  | 3 => !inRange 10 500 v
  | 4 => !inRange 1 16 v
  | 5 => !(v == 8 || v == 16 || v == 32)
  | 6 => !inRange 2 200 v
  | 7 => !inRange 1 50 v
  | 8 => !inRange 1 50 v
  | 9 => !inRange 10 200 v
  | 10 => !inRange 500 1000 v
  | 11 => !inRange 40 500 v
  | 12 => !inRange 0 500 v
  | 13 => !inRange 0 300 v
  | 14 => !inRange 1000 6000 v
  | 15 => !inRange 500 5000 v
  | 16 => !inRange 0 2000 v
  | 17 => !inRange 0 33554431 v
  | 18 => !inRange 500 1000 v
  | _ => !inRange 1 30 v || v == node

/-- Whether entry `i` of a table fails validation (R142). -/
def entryFails (b : TableSet) (node : Nat) : TableId → Nat → Bool
  | .zoneMap, i => zoneFails b i
  | .zoneClasses, i => classFails b i
  | .stabilityGrid, i => stabilityFails b i
  | .capacityCurve, i => capacityFails b i
  | .channelMap, i => channelFails b i
  | .valveMap, i => valveFails b i
  | .assortments, i => assortmentFails b i
  | .settings, i => settingFails b node i

/-- The first entry index of a table that fails. -/
def firstFailure (b : TableSet) (node : Nat) (t : TableId) : Option Nat := (List.range t.entries).find? (entryFails b node t)

/-- Validation: the table and entry index of the first entry that fails, tables in id order (R142). -/
def validate (b : TableSet) (node : Nat) : Option (TableId × Nat) :=
  TableId.all.findSome? (fun t => (firstFailure b node t).map (fun i => (t, i)))

/-! ### The rest point, the swap and the attempt -/

/-- The rest point: the lift state EMPTY and the quiet flag true (R62). -/
def State.restPoint (s : State) : Bool := s.lift.state == .empty && s.guard.quiet

/-- Whether staging's Channel Map or Valve Map differs from the active one (R143). -/
def State.mapsDiffer (s : State) : Bool :=
  s.banks.staging.table .channelMap != s.banks.active.table .channelMap
    || s.banks.staging.table .valveMap != s.banks.active.table .valveMap

/-- Whether the guard state lets a swap change the two maps (R143, R144). -/
def State.mapsMayChange (s : State) : Bool := s.guard.state == .blocked || s.guard.state == .park

/-- The tare search at a swap: its window is emptied where W changes, its count is kept (R84). -/
def searchAfterSwap (old new : TableSet) (search : Option TareSearch) : Option TareSearch :=
  if old.setting .weighWindow = new.setting .weighWindow then search
  else search.map (fun t => { t with window := [] })

/-- The open set at a swap: discarded where the Channel Map changes (R131). -/
def openSetAfterSwap (old new : TableSet) (o : Option OpenSet) : Option OpenSet :=
  if old.table .channelMap = new.table .channelMap then o else none

/-- The swap: staging is copied into the active bank, the flag is set, the commit ends, SWAP_DONE latches, and the
neighbours act on the new tables (R145, R33, R84, R92, R94, R131). -/
def State.swap (s : State) : State :=
  let old := s.banks.active
  let new := s.banks.staging
  let s := { s with
    banks := { s.banks with active := new, activeValid := true, commit := .none }
    openSet := openSetAfterSwap old new s.openSet
    lift := { s.lift with search := searchAfterSwap old new s.lift.search }
    tally := { s.tally with selected := selectionAfterSwap new s.tally.selected } }
  ((s.latch .swapDone).judge .nearCapacity s.nearCapacityCause).judgeBunk

/-- The tests of an attempt (R144). -/
def State.swapAllowed (s : State) : Bool :=
  s.restPoint && s.store.state != .storing && (!s.mapsDiffer || s.mapsMayChange)
    && s.banks.staging.setting .valveAddress != s.router.nodeAddress.toNat

/-- An occasion on which a pending commit is attempted (R144). -/
def State.attemptSwap (s : State) : State :=
  if s.banks.commit = .pending then (if s.swapAllowed then s.swap else s) else s

/-- PENDING_COMMIT_SWAP: an occasion has arisen and a pending commit is attempted (R144; log 6). -/
def execPendingCommitSwap (s : State) : Host.Outcome State Fault Refusal := finish s.attemptSwap

/-! ### The walk of the window (R138) -/

/-- The pointer one step along the walk, wrapping after the last entry (R138). -/
def Window.advance (w : Window) : Window :=
  match w.order with
  | .rowFirst =>
    if w.col < w.lastCol then { w with col := w.col + 1 }
    else if w.row < w.lastRow then { w with row := w.row + 1, col := w.firstCol }
    else { w with row := w.firstRow, col := w.firstCol }
  | .columnFirst =>
    if w.row < w.lastRow then { w with row := w.row + 1 }
    else if w.col < w.lastCol then { w with row := w.firstRow, col := w.col + 1 }
    else { w with row := w.firstRow, col := w.firstCol }

/-- The entry index of the pointer (R134). -/
def Window.index (w : Window) : Nat := w.row * w.table.cols + w.col

/-- The entries of a payload, each of `size` bytes; `n` of them. -/
def splitEntries (size : Nat) : Nat → Bytes → List Bytes
  | 0, _ => []
  | n + 1, bs => bs.take size :: splitEntries size n (bs.drop size)

/-- Entries are written at the pointer one after the other, and the pointer advances after each (R139). -/
def writeEntries : List Bytes → TableSet → Window → TableSet × Window
  | [], b, w => (b, w)
  | e :: rest, b, w => writeEntries rest (b.setEntry w.table w.index e) w.advance

end Sys2Proof.Machine
end

