-- ==== Sys2Proof/Machine/Lift.lean ====
section
/-! DEFINITION. The Lift Unit (spec/04): grapple, lift states, weighing, release and classification, lift records, changes
of guard state, lost sets and the tare search. -/

namespace Sys2Proof.Machine

/-! ### The grapple (R66, R67) -/

/-- What a tip position carries for the grapple (R66). -/
inductive GrappleEvent where
  /-- The grapple state stays. -/
  | steady
  /-- A grip event: OPEN to CLOSED. -/
  | grip
  /-- A release event: CLOSED to OPEN. -/
  | release
  deriving DecidableEq, Repr

/-- The grapple state a grip pressure gives (R66). -/
def grappleAfter (b : TableSet) (pressure : Int) (g : GrappleState) : GrappleState :=
  if (b.setting .gripOn : Int) ≤ pressure then .closed
  else if pressure < (b.setting .gripOff : Int) then .opened
  else g

/-- Whether the grapple state is held: in HOLD with a lift in progress (R67). -/
def State.grappleHeld (s : State) : Bool := s.guard.state == .hold && s.lift.state != .empty

/-- The grapple state after a tip position (R66, R67). -/
def State.grappleNext (t : TipPosition) (s : State) : GrappleState :=
  if s.grappleHeld then s.lift.grapple else grappleAfter s.banks.active t.grip s.lift.grapple

/-- The event between two grapple states (R66). -/
def grappleEvent : GrappleState → GrappleState → GrappleEvent
  | .opened, .closed => .grip
  | .closed, .opened => .release
  | .opened, .opened => .steady
  | .closed, .closed => .steady

/-! ### The tare search's ends (R85) -/

/-- A tare search that is SEEKING fails: TARE_FAILED latches and the search is NONE (R85). -/
def State.failSearch (s : State) : State :=
  match s.lift.search with
  | some _ => ({ s with lift := { s.lift with search := none } }).latch .tareFailed
  | none => s

/-! ### Lift context and lift record (R68, R77, R78) -/

/-- The cell of a position: its ring and sector, or BEYOND (R68, R76). -/
def cellOf (t : TipPosition) : Cell :=
  match t.ring with
  | .within r => .at_ r t.sector
  | .beyond => .beyond

/-- The lift context created at a grip (R68). -/
def newContext (selected : Nat) (t : TipPosition) : LiftContext where
  assortment := selected
  gripCell := cellOf t
  gripBunk := t.zone.bunk
  band := t.band
  overloadSeen := false
  holdSeen := false
  pickTime := none
  weighing := none

/-- The kind of a released lift (R77). -/
def releaseKind : (gripBunk releaseBunk : Bool) → LiftKind
  | false, true => .loaded
  | true, false => .unloaded
  | true, true => .reshuffled
  | false, false => .returned

/-- The lift record built from a context (R78, R80); its sequence is assigned by the Tally Unit. -/
def buildRecord (kind : LiftKind) (release : Option Cell) (liftTime : Nat) (c : LiftContext) : LiftRecord where
  sequence := 0
  kind := kind
  assortment := c.assortment
  weighing := c.weighing
  gripCell := c.gripCell
  releaseCell := release
  band := c.band
  pickTime := c.pickTime.getD 0
  liftTime := liftTime
  overloadSeen := c.overloadSeen
  holdSeen := c.holdSeen

/-- Step 2 of the end of a lift: EMPTY, no context, timer stopped, window empty, clear count 0 (R79). -/
def LiftUnit.ended (u : LiftUnit) : LiftUnit :=
  { u with state := .empty, context := none, timerRunning := false, window := [], clearCount := 0 }

/-- The lift ends without a record (R76, R80). -/
def State.endLift (s : State) : State := { s with lift := s.lift.ended }

/-- The lift ends with a record of the given kind: built, lift state EMPTY, handed to the Tally Unit (R79, steps 1 to 3). -/
def State.endLiftRecorded (kind : LiftKind) (release : Option Cell) (s : State) : State :=
  match s.lift.context with
  | some c => s.endLift.bookRecord (buildRecord kind release s.lift.timer c)
  | none => s.endLift

/-! ### The lift state machine on a tip position (R68 to R76) -/

/-- A grip event in EMPTY begins a lift (R68, R81). -/
def State.beginLift (t : TipPosition) (s : State) : State :=
  { s with
    lift := { s.lift with
      state := .gripped
      context := some (newContext s.tally.selected t)
      clearCount := 0
      window := []
      timer := 0
      timerRunning := true } }

/-- OVERLOAD_SEEN is set when the overload state is OVERLOAD (R74). -/
def State.markOverload (s : State) : State :=
  if s.capacity.overload = .overload then
    { s with lift := { s.lift with context := s.lift.context.map (fun c => { c with overloadSeen := true }) } }
  else s

/-- A position in GRIPPED without a release event is judged for clearing (R70). -/
def State.clearStep (t : TipPosition) (s : State) : State :=
  if s.banks.active.setting .clearThreshold ≤ t.net then
    if s.lift.clearCount + 1 = s.banks.active.setting .clearFilter then
      { s with
        lift := { s.lift with
          state := .aloft
          context := s.lift.context.map (fun c => { c with pickTime := some s.lift.timer })
          clearCount := 0
          window := [] } }
    else { s with lift := { s.lift with clearCount := s.lift.clearCount + 1 } }
  else { s with lift := { s.lift with clearCount := 0 } }

/-- A value appended to a window of up to `w` values; a full window loses its oldest first (R71, R84). -/
def appendWindow {α : Type} (w : Nat) (window : List α) (x : α) : List α :=
  if window.length < w then window ++ [x] else window.drop 1 ++ [x]

/-- The largest less the smallest of a window (R72, R84). -/
def spreadOf (window : List Int) : Int :=
  window.foldl max (window.headD 0) - window.foldl min (window.headD 0)

/-- The spread of a window of net masses (R72). -/
def netSpread (window : List Nat) : Nat := (spreadOf (window.map Int.ofNat)).toNat

/-- The mean of a window of net masses (R72). -/
def netMean (window : List Nat) : Nat := window.sum / window.length

/-- Whether a full weigh window is stable (R72). -/
def stableWindow (b : TableSet) (window : List Nat) : Bool :=
  netSpread window ≤ b.setting .tolerance && b.setting .clearThreshold ≤ netMean window

/-- A stable window in the context: the first one is taken, a later one replaces it only with a strictly smaller spread
(R72, R73). -/
def takeWeighing (new : Weighing) (c : LiftContext) : LiftContext :=
  match c.weighing with
  | some held => if new.spread < held.spread then { c with weighing := some new } else c
  | none => { c with weighing := some new }

/-- A position in ALOFT or WEIGHED without a release event: its net mass joins the weigh window, and a full window is
judged (R71, R72, R73). -/
def State.weighStep (t : TipPosition) (s : State) : State :=
  let window := appendWindow (s.banks.active.setting .weighWindow) s.lift.window t.net
  if window.length = s.banks.active.setting .weighWindow ∧ stableWindow s.banks.active window = true then
    { s with
      lift := { s.lift with
        state := .weighed
        context := s.lift.context.map (takeWeighing ⟨netMean window, netSpread window, t.reach⟩)
        window := [] } }
  else { s with lift := { s.lift with window := window } }

/-- A release event with a load aloft: classified, recorded, booked, and a pending commit attempted (R76, R77, R79). -/
def State.releaseAloft (t : TipPosition) (s : State) : State :=
  let gripBunk := (s.lift.context.map (·.gripBunk)).getD false
  (s.endLiftRecorded (releaseKind gripBunk t.zone.bunk) (some (cellOf t))).attemptSwap

/-- Step 2 of a tip position, in ENFORCE: the lift state machine (R68 to R76). -/
def State.liftStep (e : GrappleEvent) (t : TipPosition) (s : State) : State :=
  match s.lift.state, e with
  | .empty, .grip => (s.beginLift t).markOverload
  | .empty, .release => s
  | .empty, .steady => s
  | .gripped, .release => s.markOverload.endLift.attemptSwap
  | .gripped, .grip => s.markOverload.clearStep t
  | .gripped, .steady => s.markOverload.clearStep t
  | .aloft, .release => s.markOverload.releaseAloft t
  | .aloft, .grip => s.markOverload.weighStep t
  | .aloft, .steady => s.markOverload.weighStep t
  | .weighed, .release => s.markOverload.releaseAloft t
  | .weighed, .grip => s.markOverload.weighStep t
  | .weighed, .steady => s.markOverload.weighStep t

/-! ### The tare search (R84) -/

/-- How many positions a tare search takes at most (R84). -/
def searchLimit : Nat := 64

/-- The mean of a tare window, truncated toward zero (R84). -/
def tareMean (window : List Int) : Int := window.sum.tdiv window.length

/-- Step 3 of a tip position: the tare search, if one is SEEKING (R84, R85). -/
def State.tareStep (t : TipPosition) (s : State) : State :=
  match s.lift.search with
  | none => s
  | some search =>
    let w := s.banks.active.setting .weighWindow
    let window := appendWindow w search.window t.gross
    let count := search.count + 1
    if window.length = w ∧ spreadOf window ≤ (s.banks.active.setting .tolerance : Int) then
      if 0 ≤ tareMean window ∧ tareMean window ≤ 2000 then
        ({ s with lift := { s.lift with tare := (tareMean window).toNat, search := none } }).latch .tareDone
      else s.failSearch
    else if searchLimit ≤ count then s.failSearch
    else { s with lift := { s.lift with search := some ⟨window, count⟩ } }

/-! ### A tip position at the Lift Unit (R65) -/

/-- Step 1: the grapple state, and a grip event ends a tare search (R66, R67, R85). -/
def State.grappleStep (t : TipPosition) (s : State) : State :=
  let g := s.grappleNext t
  let e := grappleEvent s.lift.grapple g
  let s := { s with lift := { s.lift with grapple := g } }
  if e = .grip then s.failSearch else s

/-- The Lift Unit takes a tip position: grapple, lift, tare (R65). -/
def State.liftTake (t : TipPosition) (s : State) : State :=
  let e := grappleEvent s.lift.grapple (s.grappleNext t)
  let s := s.grappleStep t
  let s := if s.guard.state = .enforce then s.liftStep e t else s
  s.tareStep t

/-! ### Changes of guard state and lost sets (R75, R80, R82, R85) -/

/-- Entry into HOLD with a lift in progress (R75). -/
def LiftUnit.enterHold (u : LiftUnit) : LiftUnit :=
  let c := u.context.map (fun c => { c with holdSeen := true })
  match u.state with
  | .empty => u
  | .gripped => { u with context := c, clearCount := 0 }
  | .aloft => { u with context := c, window := [] }
  | .weighed => { u with context := c, window := [] }

/-- A lift ended by entry into BLOCKED, SERVICE or PARK (R80). -/
def State.abandonLift (s : State) : State :=
  match s.lift.state with
  | .empty => s
  | .gripped => s.endLift
  | .aloft => (s.endLiftRecorded .abandoned none).latch .liftAbandoned
  | .weighed => (s.endLiftRecorded .abandoned none).latch .liftAbandoned

/-- The Lift Unit is told the new guard state (R37, step 4; R75, R80, R85). -/
def State.liftGuardChange (g : GuardState) (s : State) : State :=
  match g with
  | .blocked => s.abandonLift
  | .hold => { s with lift := s.lift.enterHold }
  | .enforce => s
  | .service => s.abandonLift.failSearch
  | .park => s.abandonLift.failSearch

/-- A lost set at the Lift Unit: the weigh window and the tare window are emptied (R82). -/
def LiftUnit.lostSet (u : LiftUnit) : LiftUnit :=
  { u with window := [], search := u.search.map (fun t => { t with window := [] }) }

end Sys2Proof.Machine
end

