-- ==== Sys2Proof/Machine/Ops.lean ====
section
/-! DEFINITION. The operations the meanings share: placing frames in the output queues (R113 to R115), building a reply
and the reply slot (R116, R157), taking a command (R156, R160), the Router's dispositions of COMMAND frames (R107, R109,
R111, R117) and the reception of a frame at either port (R104, R105). -/

namespace Sys2Proof.Machine

/-- How many frames an output queue holds at most (R113). -/
def queueLimit : Nat := 4

/-! ### Output queues -/

/-- The Router places a frame in the crane-bound queue, or drops it with FWD_DROP (R114). -/
def State.forwardCrane (f : Frame) (s : State) : State :=
  if s.line.craneQueue.length < queueLimit then
    { s with line := { s.line with craneQueue := s.line.craneQueue ++ [f] } }
  else s.latch .fwdDrop

/-- The Router places a forwarded frame in the cab-bound queue, or drops it with FWD_DROP (R115). -/
def State.forwardCab (f : Frame) (s : State) : State :=
  if s.line.cabQueue.length < queueLimit then
    { s with line := { s.line with cabQueue := s.line.cabQueue ++ [⟨f, .forwarded⟩] } }
  else s.latch .fwdDrop

/-- A reply that is ready joins the cab-bound queue where there is room, and waits in the reply slot where there is none
(R115, R116). -/
def State.placeReply (r : OutFrame) (s : State) : State :=
  if s.line.cabQueue.length < queueLimit then
    { s with line := { s.line with cabQueue := s.line.cabQueue ++ [r] } }
  else { s with unit := { s.unit with replySlot := some r } }

/-- The reply that waits in the reply slot joins the cab-bound queue when there is room; the slot is then empty (R116). -/
def State.replyJoins (s : State) : State :=
  match s.unit.replySlot with
  | some r =>
    if s.line.cabQueue.length < queueLimit then
      { s with
        line := { s.line with cabQueue := s.line.cabQueue ++ [r] }
        unit := { s.unit with replySlot := none } }
    else s
  | none => s

/-! ### Replies -/

/-- The refusal reasons (R157). -/
inductive Reason where
  | busy | wrongState | badArgument | stagingLocked | noWindow | notEmpty | empty | noTables | invalidTable | imageInvalid
  | noKey | unknownCommand
  deriving DecidableEq, Repr

/-- The result of a command (R157). -/
inductive Verdict where
  /-- DONE. -/
  | done
  /-- ACCEPTED. -/
  | accepted
  /-- REFUSED with a reason. -/
  | refused (r : Reason)
  deriving DecidableEq, Repr

/-- The result byte of a refusal (R168). -/
def reasonCode : Reason → Byte
  | .busy => 16
  | .wrongState => 17
  | .badArgument => 18
  | .stagingLocked => 19
  | .noWindow => 20
  | .notEmpty => 21
  | .empty => 22
  | .noTables => 23
  | .invalidTable => 24
  | .imageInvalid => 25
  | .noKey => 26
  | .unknownCommand => 27

/-- The result byte of a reply (R168). -/
def verdictCode : Verdict → Byte
  | .done => 0
  | .accepted => 1
  | .refused r => reasonCode r

/-- What carrying out a command gives: the state it leaves, its result and the data it returns (R156, R157). -/
structure Answer where
  /-- The state the command leaves. -/
  state : State
  /-- The result code. -/
  verdict : Verdict
  /-- The data of the reply. -/
  data : Bytes
  deriving DecidableEq, Repr

/-- DONE, with data. -/
def State.done (s : State) (data : Bytes := []) : Answer := ⟨s, .done, data⟩

/-- ACCEPTED. -/
def State.accept (s : State) : Answer := ⟨s, .accepted, []⟩

/-- REFUSED: a refused command changes nothing beyond the closing of the window (R156). -/
def State.refuse (s : State) (r : Reason) : Answer := ⟨s, .refused r, []⟩

/-- The identifier byte of a reply: the payload's first byte, 255 for an empty command (R158, R168). -/
def replyIdentifier (payload : Bytes) : Byte := payload.headD 255

/-- The REPLY frame for a command: to its source, from the node address as it stands once the command has been carried
out (R108, R157, R168). -/
def replyFrame (command : Frame) (a : Answer) : Frame where
  cls := classReply
  dest := command.src
  src := a.state.router.nodeAddress
  payload := replyIdentifier command.payload :: verdictCode a.verdict :: a.data

/-- The reply as it goes to the reply slot. The only command that leaves a line reset pending is LINE RESET itself (R160),
so a reply built while one is pending is its reply. -/
def replyOf (command : Frame) (a : Answer) : OutFrame :=
  ⟨replyFrame command a, if a.state.unit.lineResetPending then .lineResetReply else .reply⟩

/-! ### Taking a command -/

/-- The table-write window closes (R140). -/
def State.closeWindow (s : State) : State := { s with unit := { s.unit with window := none } }

/-- Step 1 of taking a command: every command other than TABLE DATA closes the window (R140, R156). -/
def State.windowStep (payload : Bytes) (s : State) : State :=
  if commandOfPayload payload = some .tableData then s else s.closeWindow

/-- The Command Unit takes an addressed command: window, judgement, reply (R156). -/
def takeCommand (f : Frame) (judge : State → Answer) (s : State) : State :=
  let a := judge (s.windowStep f.payload)
  a.state.placeReply (replyOf f a)

/-- The Router hands an addressed command to the Command Unit: discarded while a line reset is pending (R160), lost at an
occupied reply slot (R117), taken otherwise. -/
def handCommand (f : Frame) (judge : State → Answer) (s : State) : State :=
  if s.unit.lineResetPending then s
  else if s.unit.replySlot.isSome then s.latch .commandLost
  else takeCommand f judge s

/-- The discovery address (R102). -/
def discoveryAddress : BitVec 5 := 0

/-- The broadcast address (R102). -/
def broadcastAddress : BitVec 5 := 31

/-- Whether a broadcast is one the Command Unit takes: GUARD STOP, PARK or PARK EXIT with a payload of the right length
(R111). -/
def permittedBroadcast (payload : Bytes) : Bool :=
  payload == [commandCode .guardStop] || payload == [commandCode .park] || payload == [commandCode .parkExit]

/-- A permitted broadcast is carried out without a reply, unless a line reset is pending (R111, R160). -/
def takeBroadcast (f : Frame) (judge : State → Answer) (s : State) : State :=
  if permittedBroadcast f.payload && !s.unit.lineResetPending then (judge (s.windowStep f.payload)).state else s

/-- The Router disposes of a good COMMAND frame received at the Cab Port (R107, R109). `judge` is the command's own
judgement, on the state with the window closed. -/
def routeCommand (f : Frame) (judge : State → Answer) (s : State) : State :=
  match s.router.link with
  | .dark =>
    if f.dest = discoveryAddress ∧ commandOfPayload f.payload = some .assignAddress ∧ s.pins.csi = true then
      handCommand f judge s
    else s
  | .linked =>
    if f.dest = s.router.nodeAddress then handCommand f judge s
    else if f.dest = broadcastAddress then (takeBroadcast f judge s).forwardCrane f
    else s.forwardCrane f

/-! ### Reception -/

/-- A frame whose check is right arrives at the Cab Port: a payload that no frame can hold makes it a bad frame (R104);
during an image read it is discarded (R105); otherwise the Router disposes of it. -/
def cabPort (f : Frame) (route : State → State) (s : State) : State :=
  if 28 < f.payload.length then s.latch .crcCab else if s.store.reading then s else route s

/-- A frame whose check is right arrives at the Crane Port (R104, R105). -/
def cranePort (f : Frame) (route : State → State) (s : State) : State :=
  if 28 < f.payload.length then s.latch .crcCrane else route s

/-- A COMMAND frame with a row of its own arrives at the Cab Port (R156). -/
def commandEvent (f : Frame) (judge : State → Answer) (s : State) : Host.Outcome State Fault Refusal :=
  finish (cabPort f (routeCommand f judge) s)

/-- The levels of the two input pins as they are sampled for an event. In SERVICE the service key's fall is the event
SKEY_DEASSERT (R47), so the level is not taken from here (log 4). -/
def State.samplePins (p : Pins) (s : State) : State :=
  { s with pins := ⟨p.csi, if s.guard.state = .service then s.pins.skey else p.skey⟩ }

end Sys2Proof.Machine
end

