-- ==== Sys2Proof/Machine/Guard.lean ====
section
/-! DEFINITION. The Envelope Guard's states (spec/03, 3.1 to 3.4): entry actions, warm-up and sample watch, the guard
commands, the force test, and the events WATCH_EXPIRY and SKEY_DEASSERT. -/

namespace Sys2Proof.Machine

/-! ### Changing state (R37, R38) -/

/-- Steps 1 and 2 of the entry actions: the new state, quiet true, flags PASSED, warm-up 0; VEN follows (R37, R38). -/
def EnvelopeGuard.enter (g : GuardState) (watch : Option Nat) (u : EnvelopeGuard) : EnvelopeGuard :=
  { u with
    state := g
    quiet := true
    warmUp := 0
    limitFlags := allPassed
    watch := watch
    ven := venLevel g u.forceTest }

/-- Step 3 of the entry actions: the watch timer (R37, R41). `byExpiry` says that the change is caused by its expiry. -/
def watchAfterEntry (b : TableSet) (g : GuardState) (byExpiry : Bool) (watch : Option Nat) : Option Nat :=
  match g with
  | .hold => if byExpiry then none else some (b.setting .staleTimeout)
  | .enforce => watch
  | .blocked => none
  | .service => none
  | .park => none

/-- The open set when the guard state becomes `g`: discarded at PARK (R130). -/
def openSetAfterEntry (g : GuardState) (o : Option OpenSet) : Option OpenSet :=
  match g with
  | .park => none
  | .blocked => o
  | .hold => o
  | .enforce => o
  | .service => o

/-- A change of guard state with its entry actions in order; a state entered from itself is no change (R37, R130). -/
def State.enterGuard (g : GuardState) (byExpiry : Bool) (s : State) : State :=
  if s.guard.state = g then s
  else
    let s := { s with
      guard := s.guard.enter g (watchAfterEntry s.banks.active g byExpiry s.guard.watch)
      openSet := openSetAfterEntry g s.openSet }
    (s.liftGuardChange g).attemptSwap

/-! ### Warm-up and sample watch (R40 to R43) -/

/-- How many consecutive tip positions complete the warm-up (R40). -/
def warmUpLimit : Nat := 4

/-- A tip position at the Envelope Guard: the SAMPLE_STALE cause ends in every state (R43); in HOLD and ENFORCE the watch
timer is restarted (R41); in HOLD the warm-up count rises, and at 4 the guard enters ENFORCE (R40). -/
def State.guardTake (s : State) : State :=
  let duration := s.banks.active.setting .staleTimeout
  match s.guard.state with
  | .hold =>
    let s := { s with
      guard := { s.guard with stale := false, watch := some duration, warmUp := s.guard.warmUp + 1 } }
    if warmUpLimit ≤ s.guard.warmUp then s.enterGuard .enforce false else s
  | .enforce => { s with guard := { s.guard with stale := false, watch := some duration } }
  | .blocked => { s with guard := { s.guard with stale := false } }
  | .service => { s with guard := { s.guard with stale := false } }
  | .park => { s with guard := { s.guard with stale := false } }

/-- A lost set at the Envelope Guard: the warm-up count is set to 0 in HOLD (R40, R128). -/
def EnvelopeGuard.lostSet (u : EnvelopeGuard) : EnvelopeGuard :=
  if u.state = .hold then { u with warmUp := 0 } else u

/-- The watch timer stops at its expiry and the SAMPLE_STALE cause is present; SAMPLE_STALE latches (R42, R43). -/
def State.watchExpires (s : State) : State :=
  ({ s with guard := { s.guard with watch := none, stale := true } }).latch .sampleStale

/-- Expiry of a running watch timer, by the guard state it finds (R42). It does not run in BLOCKED, SERVICE and PARK. -/
def State.watchExpiry (s : State) : State :=
  match s.guard.watch, s.guard.state with
  | some _, .enforce => s.watchExpires.enterGuard .hold true
  | some _, .hold =>
    let s := s.watchExpires
    { s with guard := { s.guard with warmUp := 0 } }
  | some _, .blocked => s
  | some _, .service => s
  | some _, .park => s
  | none, _ => s

/-- WATCH_EXPIRY (R42). -/
def execWatchExpiry (s : State) : Host.Outcome State Fault Refusal := finish s.watchExpiry

/-- SKEY deasserts: in SERVICE the guard goes to BLOCKED and SERVICE_KEY_LOST latches (R47). -/
def State.keyLost (s : State) : State :=
  let s := { s with pins := { s.pins with skey := false } }
  if s.guard.state = .service then (s.enterGuard .blocked false).latch .serviceKeyLost else s

/-- SKEY_DEASSERT (R47). -/
def execSkeyDeassert (s : State) : Host.Outcome State Fault Refusal := finish s.keyLost

/-! ### The guard commands -/

/-- GUARD START: its tests in order, then HOLD (R39). -/
def judgeGuardStart (args : Bytes) (s : State) : Answer :=
  if args.length ≠ 0 then s.refuse .badArgument
  else if s.guard.state ≠ .blocked then s.refuse .wrongState
  else if s.banks.commit = .pending then s.refuse .busy
  else if s.banks.activeValid = false then s.refuse .noTables
  else (s.enterGuard .hold false).done

/-- GUARD STOP: BLOCKED from every state (R44). -/
def judgeGuardStop (args : Bytes) (s : State) : Answer :=
  if args.length ≠ 0 then s.refuse .badArgument else (s.enterGuard .blocked false).done

/-- SERVICE ENTER: its tests in order, then SERVICE (R45). -/
def judgeServiceEnter (args : Bytes) (s : State) : Answer :=
  if args.length ≠ 0 then s.refuse .badArgument
  else if s.guard.state ≠ .blocked ∧ s.guard.state ≠ .enforce then s.refuse .wrongState
  else if s.pins.skey = false then s.refuse .noKey
  else (s.enterGuard .service false).done

/-- SERVICE EXIT: BLOCKED from SERVICE (R46). -/
def judgeServiceExit (args : Bytes) (s : State) : Answer :=
  if args.length ≠ 0 then s.refuse .badArgument
  else if s.guard.state ≠ .service then s.refuse .wrongState
  else (s.enterGuard .blocked false).done

/-- PARK: PARK from every state (R48). -/
def judgePark (args : Bytes) (s : State) : Answer :=
  if args.length ≠ 0 then s.refuse .badArgument else (s.enterGuard .park false).done

/-- PARK EXIT: from PARK to HOLD with the active-valid flag set, to BLOCKED with it clear (R49). -/
def judgeParkExit (args : Bytes) (s : State) : Answer :=
  if args.length ≠ 0 then s.refuse .badArgument
  else if s.guard.state ≠ .park then s.refuse .wrongState
  else if s.banks.activeValid = true then (s.enterGuard .hold false).done
  else (s.enterGuard .blocked false).done

/-- The force test is turned on or off: VEN follows, and FORCED latches when its cause becomes present (R38, R50). -/
def State.setForceTest (on : Bool) (s : State) : State :=
  if s.guard.forceTest = on then s
  else
    let s := ({ s with guard := { s.guard with forceTest := on } }).driveVen
    s.judge .forced on

/-- FORCE TEST: argument 0 off or 1 on (R50, R168). -/
def judgeForceTest (args : Bytes) (s : State) : Answer :=
  if args.length ≠ 1 then s.refuse .badArgument
  else if u8At args 0 = 0 then (s.setForceTest false).done
  else if u8At args 0 = 1 then (s.setForceTest true).done
  else s.refuse .badArgument

/-- GUARD_START (R39). -/
def execGuardStart (p : Packet) (s : State) : Host.Outcome State Fault Refusal :=
  commandEvent (commandFrame .guardStart p) (judgeGuardStart p.body) s

/-- GUARD_STOP (R44, R111). -/
def execGuardStop (p : Packet) (s : State) : Host.Outcome State Fault Refusal :=
  commandEvent (commandFrame .guardStop p) (judgeGuardStop p.body) s

/-- SERVICE_ENTER (R45), with the level of SKEY when the command is judged (R47). -/
def execServiceEnter (p : Packet) (skey : Bool) (s : State) : Host.Outcome State Fault Refusal :=
  commandEvent (commandFrame .serviceEnter p) (judgeServiceEnter p.body) (s.samplePins ⟨s.pins.csi, skey⟩)

/-- SERVICE_EXIT (R46). -/
def execServiceExit (p : Packet) (s : State) : Host.Outcome State Fault Refusal :=
  commandEvent (commandFrame .serviceExit p) (judgeServiceExit p.body) s

/-- PARK (R48, R111). -/
def execPark (p : Packet) (s : State) : Host.Outcome State Fault Refusal :=
  commandEvent (commandFrame .park p) (judgePark p.body) s

/-- PARK_EXIT (R49, R111). -/
def execParkExit (p : Packet) (s : State) : Host.Outcome State Fault Refusal :=
  commandEvent (commandFrame .parkExit p) (judgeParkExit p.body) s

/-- FORCE_TEST (R50). -/
def execForceTest (p : Packet) (s : State) : Host.Outcome State Fault Refusal :=
  commandEvent (commandFrame .forceTest p) (judgeForceTest p.body) s

end Sys2Proof.Machine
end

