-- ==== Sys2Proof/Machine/Assembler.lean ====
section
/-! DEFINITION. The Sample Assembler (spec/07): calibration, the open set, SYNC and SAMPLE frames, completion and loss; the
event of a complete set (R3); and the rows SYNC and SAMPLE. -/

namespace Sys2Proof.Machine

/-! ### Calibration (R122, R123) -/

/-- The index of SLEW among the quantities (R121). -/
def slewQuantity : Nat := 0

/-- The calibrated value of a raw value for quantity `q` (R122). -/
def calibrate (b : TableSet) (q : Nat) (raw : Int) : Int :=
  let v := ((raw - b.channelZero q) * (b.channelGain q : Int)).tdiv 1024
  if q = slewQuantity then v % 3600 else v

/-- The range of each quantity but SLEW, in index order from BOOM (R123). -/
def quantityRanges : List (Int × Int) :=
  [(-300, 850), (-1750, 0), (0, 4000), (-2000, 20000), (0, 3000), (-600, 600), (-600, 600)]

/-- Whether a calibrated value passes its range check; SLEW has none (R123). -/
def valueInRange (q : Nat) (v : Int) : Bool :=
  match q with
  | 0 => true
  | k + 1 =>
    match quantityRanges[k]? with
    | some (lo, hi) => lo ≤ v && v ≤ hi
    | none => false

/-! ### Filling the open set (R126) -/

/-- The number of quantities (R121). -/
def quantityCount : Nat := 8

/-- The eight empty slots of a new set (R125). -/
def emptySlots : List (Option Int) := List.replicate quantityCount none

/-- The quantity whose Channel Map entry a pair matches: assigned, the frame's source, the pair's channel, which is below
16 (R121, R126). A validated map has at most one (log 18). -/
def matchQuantity (b : TableSet) (src channel : Nat) : Option Nat :=
  (List.range quantityCount).find? (fun q =>
    b.channelSource q != 0 && b.channelSource q == src && b.channelNumber q == channel && channel < 16)

/-- One pair taken for the open set: passed by, refused, or filling its slot (R126). -/
def takePair (b : TableSet) (src : Nat) (slots : List (Option Int)) (pair : Nat × Int) : List (Option Int) :=
  match matchQuantity b src pair.1 with
  | none => slots
  | some q =>
    if (slots.getD q none).isSome then slots
    else if valueInRange q (calibrate b q pair.2) then slots.set q (some (calibrate b q pair.2))
    else slots

/-- Whether all eight slots are filled. -/
def slotsFull (slots : List (Option Int)) : Bool := slots.all Option.isSome

/-- The pairs of a frame in order; once the set is complete the later pairs are passed by (R126). -/
def takePairs (b : TableSet) (src : Nat) : List (Nat × Int) → List (Option Int) → List (Option Int)
  | [], slots => slots
  | p :: rest, slots =>
    if slotsFull slots then slots else takePairs b src rest (takePair b src slots p)

/-- The complete set of eight filled slots (R127). -/
def completeSet (slots : List (Option Int)) : SampleSet :=
  let v (q : Nat) : Int := (slots.getD q none).getD 0
  ⟨v 0, v 1, v 2, v 3, v 4, v 5, v 6, v 7⟩

/-! ### SAMPLE frames -/

/-- The number of pairs of a SAMPLE payload, where its length is 1 + 3 × n for an n in 1..6 (R126). -/
def pairCount (payload : Bytes) : Option Nat :=
  if payload.length % 3 = 1 ∧ 4 ≤ payload.length ∧ payload.length ≤ 19 then some ((payload.length - 1) / 3) else none

/-- The pairs of a SAMPLE payload: channel number and raw value (R167). -/
def pairsOf (n : Nat) (payload : Bytes) : List (Nat × Int) :=
  (List.range n).map (fun k => (u8At payload (1 + 3 * k), s16At payload (2 + 3 * k)))

/-- A complete set reaches the Geometry Unit: record, Capacity Monitor, latest tip position and its conditions, Envelope
Guard, Lift Unit, in this order (R3). -/
def State.deliver (x : SampleSet) (s : State) : State :=
  let s := s.takeRecord (geometryRecord s.banks.active s.lift.tare x)
  match s.tip with
  | some t => s.guardTake.liftTake t
  | none => s

/-- The Sample Assembler reads a SAMPLE frame (R126, R127). -/
def State.snoop (f : Frame) (s : State) : State :=
  match pairCount f.payload, s.openSet with
  | some n, some o =>
    if f.payload.headD 0 = o.sequence then
      let slots := takePairs s.banks.active f.src.toNat (pairsOf n f.payload) o.slots
      if slotsFull slots then ({ s with openSet := none }).deliver (completeSet slots)
      else { s with openSet := some { o with slots := slots } }
    else s
  | _, _ => s

/-- The Router disposes of a SAMPLE frame received at the Crane Port: snooped and forwarded, independently (R107, R112). -/
def routeSample (f : Frame) (s : State) : State :=
  match s.router.link with
  | .dark => s
  | .linked => (s.snoop f).forwardCab f

/-- SAMPLE (R126). -/
def execSample (p : Packet) (s : State) : Host.Outcome State Fault Refusal :=
  finish (cranePort (frameOf classSample p) (routeSample (frameOf classSample p)) s)

/-! ### SYNC frames -/

/-- A lost set is reported to the Envelope Guard and to the Lift Unit (R128). -/
def State.reportLost (s : State) : State := { s with guard := s.guard.lostSet, lift := s.lift.lostSet }

/-- The Sample Assembler takes a SYNC: an open set is closed as lost, and a new set is opened (R125). -/
def State.takeSync (sequence : Byte) (s : State) : State :=
  let s := if s.openSet.isSome then s.reportLost else s
  { s with openSet := some ⟨sequence, emptySlots⟩ }

/-- Whether a SYNC is handed to the Sample Assembler: payload length 1, guard not in PARK (R109, R125). -/
def State.syncHanded (f : Frame) (s : State) : Bool := f.payload.length == 1 && s.guard.state != .park

/-- The Router disposes of a SYNC frame received at the Cab Port: handed and forwarded, independently (R107, R109). -/
def routeSync (f : Frame) (s : State) : State :=
  match s.router.link with
  | .dark => s
  | .linked => (if s.syncHanded f then s.takeSync (f.payload.headD 0) else s).forwardCrane f

/-- SYNC (R125). -/
def execSync (p : Packet) (s : State) : Host.Outcome State Fault Refusal :=
  finish (cabPort (frameOf classSync p) (routeSync (frameOf classSync p)) s)

end Sys2Proof.Machine
end

