-- ==== Sys2Proof/Machine/Demand.lean ====
section
/-! DEFINITION. The Envelope Guard's filtering of DEMAND frames (spec/03, 3.5 to 3.7, R52 to R62), the Router's judgement
of them (R110), and the row DEMAND. -/

namespace Sys2Proof.Machine

/-! ### One demand -/

/-- What the filtering makes of one demand. -/
structure Filtered where
  /-- The demand forwarded. -/
  value : Int
  /-- The slot's limit flag. -/
  flag : LimitFlag
  /-- Whether the zone stop case applied, which latches ZONE_STOP (R57). -/
  zoneStop : Bool
  deriving DecidableEq, Repr

/-- A received demand clamped to −1000..+1000 (R52). -/
def clampDemand (d : Int) : Int := max (-1000) (min 1000 d)

/-- A demand limited in magnitude, its sign kept (R54, R56, R59). -/
def limitTo (cap : Nat) (d : Int) : Int := if d < 0 then -(min (-d) (cap : Int)) else min d (cap : Int)

/-- CAPPED when the forwarded magnitude is smaller than the received one, PASSED otherwise (R54, R56, R59, R61). -/
def magnitudeFlag (received forwarded : Int) : LimitFlag :=
  if forwarded.natAbs < received.natAbs then .capped else .passed

/-- A demand forwarded as `d`, with the flag its magnitude gives. -/
def passAs (received d : Int) : Filtered := ⟨d, magnitudeFlag received d, false⟩

/-- A demand made 0 by the violation case or the zone stop case (R56, R57). -/
def zeroedZone (zoneStop : Bool) : Filtered := ⟨0, .zeroedZone, zoneStop⟩

/-- The direction in which a demand moves its joint: polarity × sign (R55). -/
def jointDirection (b : TableSet) (slot : Nat) (d : Int) : Int := b.slotPolarity slot * d.sign

/-- The look-ahead point of a motion demand, resolved and evaluated (R20, R34, R55). -/
def lookAhead (b : TableSet) (tip : TipPosition) (slot : Nat) (d : Int) : PointRecord :=
  let step := jointDirection b slot d * (b.slotLookStep slot : Int)
  let point := match b.slotKind slot with
    | .slew => resolvePoint b tip (((tip.slew : Int) + step) % 3600).toNat tip.a1 tip.a2 tip.ext
    | .boom => resolvePoint b tip tip.slew (tip.a1 + step) tip.a2 tip.ext
    | .jib => resolvePoint b tip tip.slew tip.a1 (tip.a2 + step) tip.ext
    | .ext => resolvePoint b tip tip.slew tip.a1 tip.a2 (tip.ext + step)
    | .unused | .rotator | .grapple | .other => resolvePoint b tip tip.slew tip.a1 tip.a2 tip.ext
  evaluatePoint b tip point

/-- Whether the tip stands in violation (R56). -/
def inViolation (tip : TipPosition) : Bool := tip.zone.rule == .noEntry || tip.band == .beyond

/-- Whether the tip's ring or band is BEYOND (R56). -/
def outOfTables (tip : TipPosition) : Bool := tip.ring == .beyond || tip.band == .beyond

/-- Whether the look-ahead utilization exceeds the current one (R58); both are present whenever the case is reached. -/
def exceeds (point current : Option Nat) : Bool :=
  match point, current with
  | some p, some c => c < p
  | _, _ => false

/-- A nonzero motion demand in ENFORCE: the first case that applies among R56 to R59. -/
def judgeMotion (b : TableSet) (load : OverloadState) (tip : TipPosition) (slot : Nat) (received : Int) : Filtered :=
  let d := clampDemand received
  let point := lookAhead b tip slot d
  if inViolation tip then
    if outOfTables tip && tip.reach < point.reach then zeroedZone false
    else passAs received (limitTo (b.setting .violationCap) d)
  else if point.zone.rule = .noEntry then zeroedZone true
  else if load = .overload ∧ exceeds point.utilization tip.utilization = true then ⟨0, .zeroedLoad, false⟩
  else passAs received (limitTo (min tip.zone.cap point.zone.cap) d)

/-- A demand in ENFORCE (R55 to R59). Without a latest tip position, which ENFORCE always has, a nonzero motion demand
becomes 0 (log 17). -/
def enforceDemand (b : TableSet) (load : OverloadState) (tip : Option TipPosition) (slot : Nat) (received : Int) :
    Filtered :=
  if b.isMotion slot = false ∨ clampDemand received = 0 then passAs received (clampDemand received)
  else
    match tip with
    | some t => judgeMotion b load t slot received
    | none => zeroedZone false

/-- Whether a slot counts as a motion slot: by the Valve Map, and every slot in SERVICE with the active-valid flag clear
(R54, R60). -/
def State.motionSlot (s : State) (slot : Nat) : Bool :=
  s.banks.active.isMotion slot || (s.guard.state == .service && !s.banks.activeValid)

/-- A demand in SERVICE (R54). -/
def serviceDemand (cap : Nat) (motion : Bool) (received : Int) : Filtered :=
  let d := clampDemand received
  passAs received (if motion then limitTo cap d else d)

/-! ### One frame -/

/-- The eight demands of a DEMAND payload (R167). -/
def demandsOf (payload : Bytes) : List Int := (List.range 8).map (fun i => s16At payload (2 * i))

/-- What the filtering makes of the eight demands, slot by slot, in the three guard states that filter (R53, R54, R55). -/
def State.filterDemands (s : State) (demands : List Int) : List Filtered :=
  demands.mapIdx (fun slot d =>
    match s.guard.state with
    | .hold => ⟨0, .passed, false⟩
    | .service => serviceDemand (s.banks.active.setting .serviceCap) (s.motionSlot slot) d
    | .enforce => enforceDemand s.banks.active s.capacity.overload s.tip slot d
    | .blocked => passAs d d
    | .park => passAs d d)

/-- The filtered frame: bytes 0 to 2 of the received one, and the filtered demands (R52, R167). -/
def filteredFrame (f : Frame) (out : List Filtered) : Frame :=
  { f with payload := (out.map (fun x => bytesSigned16 x.value)).flatten }

/-- Filtering in SERVICE and ENFORCE writes the limit flags; filtering in HOLD does not (R53, R61). -/
def State.writeFlags (out : List Filtered) (s : State) : State :=
  if s.guard.state = .hold then s else { s with guard := { s.guard with limitFlags := out.map (·.flag) } }

/-- ZONE_STOP latches for a demand stopped by the zone stop case (R57). -/
def State.latchZoneStop (out : List Filtered) (s : State) : State :=
  if out.any (·.zoneStop) then s.latch .zoneStop else s

/-- Whether every motion demand of a filtered frame is 0 (R60). -/
def State.allStill (s : State) (out : List Filtered) : Bool :=
  (out.mapIdx (fun slot x => !(s.motionSlot slot) || x.value == 0)).all id

/-- A filtered frame joins the crane-bound queue, which writes the quiet flag and, where it leaves it true, attempts a
pending commit; at a full queue it is dropped with FWD_DROP and writes nothing (R60, R62, R114, R144). -/
def State.joinFiltered (f : Frame) (out : List Filtered) (s : State) : State :=
  if s.line.craneQueue.length < queueLimit then
    let still := s.allStill out
    let s := s.forwardCrane (filteredFrame f out)
    let s := { s with guard := { s.guard with quiet := still } }
    if still then s.attemptSwap else s
  else s.forwardCrane (filteredFrame f out)

/-- The Envelope Guard takes a DEMAND frame (R52). -/
def State.guardDemand (f : Frame) (s : State) : State :=
  match s.guard.state with
  | .blocked => s
  | .park => s
  | .hold | .service | .enforce =>
    let out := s.filterDemands (demandsOf f.payload)
    ((s.writeFlags out).latchZoneStop out).joinFiltered f out

/-- Whether an address is taken as the valve block address: the two tests' own words (R110). An own address that equals the
configured valve block address, which a line reset can leave, is taken as the valve block address; the rule's remark that a
frame to the own address is rejected would say otherwise (DESIGN CHOICE; log 27). -/
def State.isValveAddress (s : State) (dest : BitVec 5) : Bool :=
  if s.banks.activeValid then dest.toNat == s.banks.active.setting .valveAddress
  else dest != discoveryAddress && dest != broadcastAddress && dest != s.router.nodeAddress

/-- The Router disposes of a DEMAND frame received at the Cab Port (R107, R109, R110). -/
def routeDemand (f : Frame) (s : State) : State :=
  match s.router.link with
  | .dark => s
  | .linked =>
    if f.payload.length = 16 ∧ s.isValveAddress f.dest = true then s.guardDemand f else s.latch .valveReject

/-- DEMAND (R52). -/
def execDemand (p : Packet) (s : State) : Host.Outcome State Fault Refusal :=
  finish (cabPort (frameOf classDemand p) (routeDemand (frameOf classDemand p)) s)

end Sys2Proof.Machine
end

