-- ==== Sys2Proof/Config.lean ====
section
/-! DEFINITION. The values the manual leaves open, as constants with no body: no proof can see what they are.
Each is applied to the draw counter of the state, so that two uses need not give the same value (log 11). -/

namespace Sys2Proof

/-- FREE VALUE (rules R151, R153): what STORE writes over the stored check; the rules only say that the image then
does not match. `Machine.spoiledCheck` keeps that limit. The argument is the draw counter. -/
opaque Config.overwrittenCheck : Nat → BitVec 16

/-- FREE VALUE (rule R153): byte `offset` of the Table Set that a store cut off by a power-on reset leaves in the image.
The arguments are the draw counter and the offset, 0..408. -/
opaque Config.cutStoreByte : Nat → Nat → Byte

end Sys2Proof
end

