-- ==== Sys2Proof/Machine/ImageStore.lean ====
section
/-! DEFINITION. The Image Store (spec/09): STORE, RELOAD, their ends, the image read at a reset, and the loss of image
content. -/

namespace Sys2Proof.Machine

/-- A check that does not match a Table Set: the free value, moved on by one where it would match (R151, R153; log 11). -/
def spoiledCheck (draw : Nat) (tables : TableSet) : BitVec 16 :=
  if Config.overwrittenCheck draw = crc16 tables.bytes then Config.overwrittenCheck draw + 1
  else Config.overwrittenCheck draw

/-- The Table Set a cut-off store leaves: free values (R153; log 11). -/
def cutStoreTables (draw : Nat) : TableSet := ⟨(List.range tableSetSize).map (Config.cutStoreByte draw)⟩

/-! ### STORE and its end (R151, R152) -/

/-- The image once STORE has overwritten the stored check: it no longer matches (R151). The rules do not say when within the
store the Table Set is written; the image keeps the old one until STORE_END writes it whole (DESIGN CHOICE; log 29). -/
def State.beginStore (s : State) : State :=
  { s with
    store := { s.store with
      state := .storing
      image := imageOf (imageTables s.store.image) (spoiledCheck s.freeDraws (imageTables s.store.image)) }
    freeDraws := s.freeDraws + 1 }

/-- STORE starts writing the active bank to the image (R151). -/
def judgeStore (args : Bytes) (s : State) : Answer :=
  if args.length ≠ 0 then s.refuse .badArgument
  else if s.store.state ≠ .idle then s.refuse .busy
  else if s.banks.activeValid = false then s.refuse .noTables
  else s.beginStore.accept

/-- The Image Store clears the image-valid flag; IMAGE_INVALID latches (R149). -/
def State.imageFailed (s : State) : State :=
  ({ s with store := { s.store with imageValid := false } }).latch .imageInvalid

/-- The store's outcome: `image` is what the image reads back as; it succeeded when that is what was written and matches
its check (R152, step 1). -/
def State.storeOutcome (image : Bytes) (s : State) : State :=
  let ok := image == writtenImage s.banks.active && imageMatches image
  let s := { s with store := { s.store with image := image } }
  if ok then ({ s with store := { s.store with imageValid := true } }).latch .storeDone
  else (s.latch .storeFailed).imageFailed

/-- The end of a store: outcome, IDLE, then a pending commit is attempted (R152). -/
def State.endStore (left : List ByteChange) (s : State) : State :=
  let s := s.storeOutcome (changeBytes (writtenImage s.banks.active) left)
  ({ s with store := { s.store with state := .idle } }).attemptSwap

/-- STORE_END (R152); without a store running there is no end (log 5). -/
def execStoreEnd (left : List ByteChange) (s : State) : Host.Outcome State Fault Refusal :=
  finish (if s.store.state = .storing then s.endStore left else s)

/-! ### RELOAD and its end (R154) -/

/-- RELOAD starts copying the image into staging (R154). -/
def judgeReload (args : Bytes) (s : State) : Answer :=
  if args.length ≠ 0 then s.refuse .badArgument
  else if s.store.state ≠ .idle then s.refuse .busy
  else if s.banks.commit = .pending then s.refuse .stagingLocked
  else if s.store.imageValid = false then s.refuse .imageInvalid
  else ({ s with store := { s.store with state := .reloading } }).accept

/-- The end of a reload: staging is written from a matching image; otherwise the image-valid flag is cleared (R154). -/
def State.endReload (s : State) : State :=
  let s :=
    if imageMatches s.store.image then { s with banks := { s.banks with staging := imageTables s.store.image } }
    else s.imageFailed
  { s with store := { s.store with state := .idle } }

/-- RELOAD_END (R154); without a reload running there is no end (log 5). -/
def execReloadEnd (s : State) : Host.Outcome State Fault Refusal :=
  finish (if s.store.state = .reloading then s.endReload else s)

/-! ### The image read at a reset (R150) -/

/-- The Table Set an image read loads: the image's, or the factory defaults (R136, R150). -/
def loadedTables (image : Bytes) : TableSet := if imageMatches image then imageTables image else factoryDefaults

/-- The end of the image read: both banks, the two flags, the tare value, and the conditions judged then (R86, R101, R150,
R166). -/
def State.endImageRead (s : State) : State :=
  let bank := loadedTables s.store.image
  let ok := imageMatches s.store.image
  let s := { s with
    banks := { s.banks with active := bank, staging := bank, activeValid := ok }
    store := { s.store with imageValid := ok, state := .idle, reading := false }
    lift := { s.lift with tare := bank.setting .defaultTare } }
  (s.judge .imageInvalid (!ok)).judgeBunk

/-- IMAGE_READ_END (R150); without a read in progress there is no end (log 5). -/
def execImageReadEnd (s : State) : Host.Outcome State Fault Refusal :=
  finish (if s.store.reading then s.endImageRead else s)

/-! ### Loss of content (R149) -/

/-- NONVOLATILE_CONTENT_LOSS: the named bytes of the image hold something else; nothing else sees it (R149; log 12). -/
def execNonvolatileContentLoss (lost : List ByteChange) (s : State) : Host.Outcome State Fault Refusal :=
  finish { s with store := { s.store with image := changeBytes s.store.image lost } }

/-- STORE (R151). -/
def execStore (p : Packet) (s : State) : Host.Outcome State Fault Refusal :=
  commandEvent (commandFrame .store p) (judgeStore p.body) s

/-- RELOAD (R154). -/
def execReload (p : Packet) (s : State) : Host.Outcome State Fault Refusal :=
  commandEvent (commandFrame .reload p) (judgeReload p.body) s

end Sys2Proof.Machine
end

