-- ==== Sys2Proof/Machine/Resets.lean ====
section
/-! DEFINITION. LINE RESET, the two resets (R118, R160 to R162 and the reset tables of every chapter), and the events of
the transmitters: a frame departs (R113), a waiting reply joins (R116). -/

namespace Sys2Proof.Machine

/-! ### LINE RESET (R160) -/

/-- LINE RESET makes a line reset pending (R160). -/
def judgeLineReset (args : Bytes) (s : State) : Answer :=
  if args.length ≠ 0 then s.refuse .badArgument
  else if s.store.state ≠ .idle then s.refuse .busy
  else ({ s with unit := { s.unit with lineResetPending := true } }).done

/-- LINE_RESET (R160). -/
def execLineReset (p : Packet) (s : State) : Host.Outcome State Fault Refusal :=
  commandEvent (commandFrame .lineReset p) (judgeLineReset p.body) s

/-! ### The two resets -/

/-- The line reset takes effect: every block takes its line reset values and the image read begins (R161; R18, R36, R64,
R87, R101, R118, R132, R148, R155, R166). -/
def State.lineReset (s : State) : State where
  line := ⟨[], []⟩
  router := s.router
  unit := CommandUnit.reset
  openSet := none
  tip := none
  capacity := CapacityMonitor.reset
  guard := EnvelopeGuard.reset
  lift := LiftUnit.reset s.lift.tare
  tally := { s.tally with selected := 0, records := [] }
  banks := { s.banks with commit := .none }
  store := { s.store with state := .idle, reading := true }
  conditions := ⟨0, false⟩
  pins := s.pins
  freeDraws := s.freeDraws
  pending := s.pending

/-- The image after a power-on reset: left not matching if the reset cut off a store, unchanged otherwise (R153, R155). -/
def imageAfterPowerOn (draw : Nat) (state : StoreState) (image : Bytes) : Bytes :=
  match state with
  | .storing => imageOf (cutStoreTables draw) (spoiledCheck draw (cutStoreTables draw))
  | .idle => image
  | .reloading => image

/-- The power-on reset, from NRST low or power coming up until it is released and the image read begins (R162; R18, R36,
R64, R87, R101, R118, R132, R148, R153, R155, R166; log 9, log 16). -/
def State.powerOn (s : State) : State where
  line := ⟨[], []⟩
  router := ⟨0, .dark, false⟩
  unit := CommandUnit.reset
  openSet := none
  tip := none
  capacity := CapacityMonitor.reset
  guard := EnvelopeGuard.reset
  lift := LiftUnit.reset s.lift.tare
  tally := TallyUnit.reset
  banks := { s.banks with commit := .none }
  store := { s.store with
    image := imageAfterPowerOn s.freeDraws s.store.state s.store.image
    state := .idle
    reading := true }
  conditions := ⟨Condition.powerOn.mask, false⟩
  pins := s.pins
  freeDraws := s.freeDraws + 1
  pending := s.pending

/-- POWER_ON_RESET (R162). -/
def execPowerOnReset (s : State) : Host.Outcome State Fault Refusal := finish s.powerOn

/-! ### Departures (R113, R116, R161) -/

/-- Whether the oldest frame of the cab-bound queue is the reply of the line reset that is pending. -/
def State.resetReplyFirst (s : State) : Bool :=
  s.unit.lineResetPending && (s.line.cabQueue.head?.map (·.origin)) == some .lineResetReply

/-- The oldest frame of the cab-bound queue departs. The LINE RESET reply's departure makes the line reset take effect
(R161); otherwise a waiting reply takes the place freed (R116). -/
def State.cabDeparts (s : State) : State :=
  match s.line.cabQueue with
  | [] => s
  | _ :: rest =>
    if s.resetReplyFirst then s.lineReset
    else ({ s with line := { s.line with cabQueue := rest } }).replyJoins

/-- The oldest frame of the crane-bound queue departs (R113). -/
def State.craneDeparts (s : State) : State := { s with line := { s.line with craneQueue := s.line.craneQueue.drop 1 } }

/-- FRAME_DEPARTS (R113); at an empty queue no frame is being sent (log 5). -/
def execFrameDeparts (port : Port) (s : State) : Host.Outcome State Fault Refusal :=
  finish (match port with
    | .cab => s.cabDeparts
    | .crane => s.craneDeparts)

/-- REPLY_JOINS_QUEUE: a waiting reply joins where there is room (R116; log 6). -/
def execReplyJoinsQueue (s : State) : Host.Outcome State Fault Refusal := finish s.replyJoins

/-- Whether the LINE RESET reply still waits: in the reply slot, or behind another frame of the cab-bound queue. -/
def State.resetReplyWaits (s : State) : Bool :=
  (s.unit.replySlot.any (fun r => r.origin == .lineResetReply))
    || (s.line.cabQueue.drop 1).any (fun r => r.origin == .lineResetReply)

/-- LINE_RESET_TAKES_EFFECT: with a line reset pending, its reply departs from the head of the queue, or has departed, and
the reset takes effect (R161; log 6). While the reply waits behind other frames the event has not come (log 5). -/
def execLineResetTakesEffect (s : State) : Host.Outcome State Fault Refusal :=
  finish (if s.unit.lineResetPending && !s.resetReplyWaits then s.lineReset else s)

end Sys2Proof.Machine
end

