-- ==== Sys2Proof/Machine/TableCommands.lean ====
section
/-! DEFINITION. The commands of the Table Banks (spec/08): TABLE WRITE, TABLE DATA, TABLE READ, COMMIT, CANCEL COMMIT. -/

namespace Sys2Proof.Machine

/-- The walk order a byte names (R168). -/
def walkOrderOf (n : Nat) : Option WalkOrder :=
  match n with
  | 0 => some .rowFirst
  | 1 => some .columnFirst
  | _ => none

/-- Whether a table admits a walk order: COLUMN-FIRST for the Zone Map and the Stability Grid only (R137). -/
def orderAllowed : WalkOrder → TableId → Bool
  | .rowFirst, _ => true
  | .columnFirst, .zoneMap => true
  | .columnFirst, .stabilityGrid => true
  | .columnFirst, _ => false

/-- The window TABLE WRITE's six arguments name, if they are in order (R137, tests 4 to 7). -/
def windowOf (args : Bytes) : Option Window :=
  match TableId.ofNumber (u8At args 0), walkOrderOf (u8At args 5) with
  | some t, some order =>
    let r0 := u8At args 1
    let r1 := u8At args 2
    let c0 := u8At args 3
    let c1 := u8At args 4
    if r0 < t.rows ∧ r1 < t.rows ∧ c0 < t.cols ∧ c1 < t.cols ∧ r0 ≤ r1 ∧ c0 ≤ c1 ∧ orderAllowed order t = true then
      some ⟨t, r0, r1, c0, c1, order, r0, c0⟩
    else none
  | _, _ => none

/-- TABLE WRITE opens a window (R137). -/
def judgeTableWrite (args : Bytes) (s : State) : Answer :=
  if args.length ≠ 6 then s.refuse .badArgument
  else if s.store.state = .reloading then s.refuse .busy
  else if s.banks.commit = .pending then s.refuse .stagingLocked
  else
    match windowOf args with
    | some w => ({ s with unit := { s.unit with window := some w } }).done
    | none => s.refuse .badArgument

/-- TABLE DATA writes entries at the pointer (R139). -/
def judgeTableData (args : Bytes) (s : State) : Answer :=
  if s.store.state = .reloading then s.refuse .busy
  else
    match s.unit.window with
    | none => s.refuse .noWindow
    | some w =>
      let size := w.table.entrySize
      if args.length = 0 ∨ args.length % size ≠ 0 then s.refuse .badArgument
      else
        let written := writeEntries (splitEntries size (args.length / size) args) s.banks.staging w
        let s := { s with
          banks := { s.banks with staging := written.1 }
          unit := { s.unit with window := some written.2 } }
        s.done [byteOf written.2.row, byteOf written.2.col]

/-- How many bytes of entries a TABLE READ reply holds at most (R168). -/
def readLimit : Nat := 25

/-- How many entries a TABLE READ reply carries (R141, R168). -/
def readCount (t : TableId) (start count : Nat) : Nat := min count (min (readLimit / t.entrySize) (t.entries - start))

/-- The entries of a table from an index on, as the bank holds them (R141). -/
def readEntries (b : TableSet) (t : TableId) (start n : Nat) : Bytes :=
  ((List.range n).map (fun k => b.entry t (start + k))).flatten

/-- TABLE READ returns entries of either bank (R141). -/
def judgeTableRead (args : Bytes) (s : State) : Answer :=
  if args.length ≠ 5 then s.refuse .badArgument
  else
    match TableId.ofNumber (u8At args 1) with
    | none => s.refuse .badArgument
    | some t =>
      let bank := u8At args 0
      let row := u8At args 2
      let col := u8At args 3
      let count := u8At args 4
      if 2 ≤ bank ∨ t.rows ≤ row ∨ t.cols ≤ col ∨ count = 0 then s.refuse .badArgument
      else if bank = 1 ∧ s.store.state = .reloading then s.refuse .busy
      else
        let start := row * t.cols + col
        let n := readCount t start count
        s.done (byteOf n :: readEntries (if bank = 0 then s.banks.active else s.banks.staging) t start n)

/-- COMMIT validates staging and swaps, waits or refuses (R143). -/
def judgeCommit (args : Bytes) (s : State) : Answer :=
  if args.length ≠ 0 then s.refuse .badArgument
  else if s.store.state = .reloading then s.refuse .busy
  else if s.banks.commit = .pending then s.refuse .busy
  else
    match validate s.banks.staging s.router.nodeAddress.toNat with
    | some (t, i) => ⟨s, .refused .invalidTable, [byteOf t.number, byteOf i]⟩
    | none =>
      if s.mapsDiffer && !s.mapsMayChange then s.refuse .wrongState
      else if s.restPoint && s.store.state != .storing then s.swap.done
      else ({ s with banks := { s.banks with commit := .pending } }).accept

/-- CANCEL COMMIT ends a pending commit without a swap (R146). -/
def judgeCancelCommit (args : Bytes) (s : State) : Answer :=
  if args.length ≠ 0 then s.refuse .badArgument
  else if s.banks.commit = .pending then ({ s with banks := { s.banks with commit := .none } }).done
  else s.refuse .wrongState

/-- TABLE_WRITE (R137). -/
def execTableWrite (p : Packet) (s : State) : Host.Outcome State Fault Refusal :=
  commandEvent (commandFrame .tableWrite p) (judgeTableWrite p.body) s

/-- TABLE_DATA (R139). -/
def execTableData (p : Packet) (s : State) : Host.Outcome State Fault Refusal :=
  commandEvent (commandFrame .tableData p) (judgeTableData p.body) s

/-- TABLE_READ (R141). -/
def execTableRead (p : Packet) (s : State) : Host.Outcome State Fault Refusal :=
  commandEvent (commandFrame .tableRead p) (judgeTableRead p.body) s

/-- COMMIT (R143). -/
def execCommit (p : Packet) (s : State) : Host.Outcome State Fault Refusal :=
  commandEvent (commandFrame .commit p) (judgeCommit p.body) s

/-- CANCEL_COMMIT (R146). -/
def execCancelCommit (p : Packet) (s : State) : Host.Outcome State Fault Refusal :=
  commandEvent (commandFrame .cancelCommit p) (judgeCancelCommit p.body) s

end Sys2Proof.Machine
end

