-- ==== Sys2Proof/Machine/Records.lean ====
section
/-! DEFINITION. The records that replies carry, in their byte layouts (R169): status record, lift record, tally record and
totals record. -/

namespace Sys2Proof.Machine

/-! ### Small encodings (R169) -/

/-- Guard state on the line. -/
def guardCode : GuardState → Nat
  | .blocked => 0
  | .hold => 1
  | .enforce => 2
  | .service => 3
  | .park => 4

/-- Lift state on the line. -/
def liftCode : LiftState → Nat
  | .empty => 0
  | .gripped => 1
  | .aloft => 2
  | .weighed => 3

/-- Store state on the line. -/
def storeCode : StoreState → Nat
  | .idle => 0
  | .storing => 1
  | .reloading => 2

/-- Limit flag on the line. -/
def limitCode : LimitFlag → Nat
  | .passed => 0
  | .capped => 1
  | .zeroedZone => 2
  | .zeroedLoad => 3

/-- Lift kind on the line. -/
def kindCode : LiftKind → Nat
  | .loaded => 0
  | .unloaded => 1
  | .reshuffled => 2
  | .returned => 3
  | .abandoned => 4

/-- The ring of a cell byte: 5 for BEYOND. -/
def ringCode : Place → Nat
  | .within n => n
  | .beyond => 5

/-- The band of a band byte: 6 for BEYOND. -/
def bandCode : Place → Nat
  | .within n => n
  | .beyond => 6

/-- A cell byte of a lift record: BEYOND has sector 15 (R169). -/
def cellByte : Cell → Byte
  | .at_ r s => byteOf (r * 16 + s)
  | .beyond => byteOf (5 * 16 + 15)

/-! ### Status record (R159, R169) -/

/-- The eight limit flags as 16 bits, slot i in bits 2i+1..2i. -/
def flagWord : List LimitFlag → Nat
  | [] => 0
  | f :: rest => limitCode f + 4 * flagWord rest

/-- The tip group of the status record, bytes 16..25: every field all ones without a latest tip position. -/
def tipBytes : Option TipPosition → Bytes
  | none => List.replicate 10 0xFF#8
  | some t =>
    [byteOf (ringCode t.ring * 16 + t.sector), byteOf (bandCode t.band * 16 + t.fallSector.getD 15)]
      ++ optional16 t.utilization ++ bytes16 t.net ++ bytes16 t.reach ++ bytes16 t.slew

/-- The status record, 26 bytes. `windowOpen` is the window as it stood when the command was taken (R159). -/
def statusRecord (windowOpen : Bool) (s : State) : Bytes :=
  [byteOf (flagBit (s.router.link == .linked) * 128 + s.router.nodeAddress.toNat),
   byteOf (guardCode s.guard.state * 32 + flagBit s.guard.forceTest * 16 + liftCode s.lift.state * 4
     + flagBit (s.lift.grapple == .closed) * 2 + flagBit s.lift.search.isSome)]
    ++ bytes16 (flagWord s.guard.limitFlags)
    ++ bytes16 (s.tally.selected * 4096 + s.lift.tare % 2048)
    ++ [byteOf (flagBit (s.banks.commit == .pending) * 32 + flagBit windowOpen * 16 + flagBit s.banks.activeValid * 8
          + storeCode s.store.state * 2 + flagBit s.store.imageValid),
        byteOf s.tally.records.length]
    ++ bytes32 s.conditions.latched.toNat
    ++ bytes32 s.presentSet.toNat
    ++ tipBytes s.tip

/-! ### Lift record, tally record, totals record (R169) -/

/-- The lift record, 19 bytes. -/
def liftRecordBytes (r : LiftRecord) : Bytes :=
  bytes16 r.sequence.toNat
    ++ [byteOf (flagBit r.holdSeen * 128 + flagBit r.overloadSeen * 64 + kindCode r.kind), byteOf r.assortment]
    ++ optional16 (r.weighing.map (·.weight))
    ++ optional16 (r.weighing.map (·.spread))
    ++ optional16 (r.weighing.map (·.reach))
    ++ [cellByte r.gripCell, (r.releaseCell.map cellByte).getD 0xFF#8, byteOf (bandCode r.band)]
    ++ bytes24 r.pickTime ++ bytes24 r.liftTime

/-- The tally record of an index, 15 bytes. -/
def tallyBytes (active : TableSet) (i : Nat) (t : Tally) : Bytes :=
  byteOf i :: (bytes32 t.mass ++ bytes16 t.loaded ++ bytes16 t.unloaded ++ bytes16 t.unweighed)
    ++ [byteOf (flagBit (active.assortmentEnabled i))] ++ active.assortmentCode i

/-- The index of the totals in READ TALLY (R97). -/
def totalsIndex : Nat := 12

/-- The totals record, 21 bytes: bunk total, the three summed counts, the work time in seconds (R95, R97). -/
def totalsBytes (u : TallyUnit) : Bytes :=
  byteOf totalsIndex :: (bytes32 u.bunkTotal ++ bytes32 (u.tallies.map (·.loaded)).sum
    ++ bytes32 (u.tallies.map (·.unloaded)).sum ++ bytes32 (u.tallies.map (·.unweighed)).sum
    ++ bytes32 (u.workTimer / 100))

end Sys2Proof.Machine
end

