-- ==== Sys2Proof/Machine/UnitCommands.lean ====
section
/-! DEFINITION. The commands of the Router, the Command Unit, the Condition Set, the Lift Unit and the Tally Unit: ASSIGN
ADDRESS, READ STATUS, CLEAR CONDITIONS, SELECT ASSORTMENT, TARE, FETCH LIFT, READ TALLY, CLEAR TALLY, and the answer to an
unknown command. -/

namespace Sys2Proof.Machine

/-! ### Router, status and conditions -/

/-- ASSIGN ADDRESS: the rows of R108's table in their order. Where the argument equals both the node address and the valve
block address, which a line reset can leave, two rows match and the earlier one is taken: BAD_ARGUMENT (DESIGN CHOICE;
log 28). -/
def judgeAssignAddress (args : Bytes) (s : State) : Answer :=
  let a := u8At args 0
  if args.length ≠ 1 then s.refuse .badArgument
  else if a = 0 ∨ 31 ≤ a then s.refuse .badArgument
  else if a = s.banks.active.setting .valveAddress ∧ s.banks.activeValid = true then s.refuse .badArgument
  else if s.router.link = .linked ∧ s.router.nodeAddress.toNat = a then s.done
  else ({ s with router := { nodeAddress := BitVec.ofNat 5 a, link := .linked, cso := true } }).done

/-- READ STATUS; `windowOpen` is the window as it stood before the command closed it (R159). -/
def judgeReadStatus (windowOpen : Bool) (args : Bytes) (s : State) : Answer :=
  if args.length ≠ 0 then s.refuse .badArgument else s.done (statusRecord windowOpen s)

/-- CLEAR CONDITIONS (R164). -/
def judgeClearConditions (args : Bytes) (s : State) : Answer :=
  let mask := u32At args 0
  if args.length ≠ 4 then s.refuse .badArgument
  else if 2 ^ 25 ≤ mask then s.refuse .badArgument
  else
    let s := { s with
      conditions := { s.conditions with
        latched := clearedSet s.conditions.latched (BitVec.ofNat 25 mask) s.presentSet } }
    s.done (bytes32 s.conditions.latched.toNat)

/-- An empty payload or an identifier that names no command (R158). -/
def judgeUnknown (s : State) : Answer := s.refuse .unknownCommand

/-! ### Tally Unit and Lift Unit -/

/-- SELECT ASSORTMENT (R93). -/
def judgeSelectAssortment (args : Bytes) (s : State) : Answer :=
  let i := u8At args 0
  if args.length ≠ 1 then s.refuse .badArgument
  else if i < 12 ∧ s.banks.active.assortmentEnabled i = true then
    ({ s with tally := { s.tally with selected := i } }).done
  else s.refuse .badArgument

/-- TARE starts a tare search (R83). -/
def judgeTare (args : Bytes) (s : State) : Answer :=
  if args.length ≠ 0 then s.refuse .badArgument
  else if s.lift.search.isSome then s.refuse .busy
  else if s.guard.state ≠ .enforce ∧ s.guard.state ≠ .blocked then s.refuse .wrongState
  else if s.lift.state ≠ .empty ∨ s.lift.grapple = .closed then s.refuse .notEmpty
  else ({ s with lift := { s.lift with search := some ⟨[], 0⟩ } }).accept

/-- FETCH LIFT removes and returns the oldest record (R100). -/
def judgeFetchLift (args : Bytes) (s : State) : Answer :=
  if args.length ≠ 0 then s.refuse .badArgument
  else
    match s.tally.records with
    | [] => s.refuse .empty
    | r :: rest => ({ s with tally := { s.tally with records := rest } }).done (liftRecordBytes r)

/-- READ TALLY (R97). -/
def judgeReadTally (args : Bytes) (s : State) : Answer :=
  let i := u8At args 0
  if args.length ≠ 1 then s.refuse .badArgument
  else if i < 12 then s.done (tallyBytes s.banks.active i (s.tally.tallyOf i))
  else if i = totalsIndex then s.done (totalsBytes s.tally)
  else s.refuse .badArgument

/-- CLEAR TALLY: the twelve tallies and the work timer are 0, then the bunk causes are judged (R96). -/
def judgeClearTally (args : Bytes) (s : State) : Answer :=
  if args.length ≠ 0 then s.refuse .badArgument
  else
    ({ s with tally := { s.tally with tallies := List.replicate 12 zeroTally, workTimer := 0 } }).judgeBunk.done

/-! ### The rows -/

/-- ASSIGN_ADDRESS (R108), with the level CSI has when the frame is handed to the Router (R107). -/
def execAssignAddress (p : Packet) (csi : Bool) (s : State) : Host.Outcome State Fault Refusal :=
  commandEvent (commandFrame .assignAddress p) (judgeAssignAddress p.body) (s.samplePins ⟨csi, s.pins.skey⟩)

/-- READ_STATUS (R159). -/
def execReadStatus (p : Packet) (s : State) : Host.Outcome State Fault Refusal :=
  commandEvent (commandFrame .readStatus p) (judgeReadStatus s.unit.window.isSome p.body) s

/-- CLEAR_CONDITIONS (R164). -/
def execClearConditions (p : Packet) (s : State) : Host.Outcome State Fault Refusal :=
  commandEvent (commandFrame .clearConditions p) (judgeClearConditions p.body) s

/-- SELECT_ASSORTMENT (R93). -/
def execSelectAssortment (p : Packet) (s : State) : Host.Outcome State Fault Refusal :=
  commandEvent (commandFrame .selectAssortment p) (judgeSelectAssortment p.body) s

/-- TARE (R83). -/
def execTare (p : Packet) (s : State) : Host.Outcome State Fault Refusal :=
  commandEvent (commandFrame .tare p) (judgeTare p.body) s

/-- FETCH_LIFT (R100). -/
def execFetchLift (p : Packet) (s : State) : Host.Outcome State Fault Refusal :=
  commandEvent (commandFrame .fetchLift p) (judgeFetchLift p.body) s

/-- READ_TALLY (R97). -/
def execReadTally (p : Packet) (s : State) : Host.Outcome State Fault Refusal :=
  commandEvent (commandFrame .readTally p) (judgeReadTally p.body) s

/-- CLEAR_TALLY (R96). -/
def execClearTally (p : Packet) (s : State) : Host.Outcome State Fault Refusal :=
  commandEvent (commandFrame .clearTally p) (judgeClearTally p.body) s

end Sys2Proof.Machine
end

