-- ==== Sys2Proof/Machine/Frames.lean ====
section
/-! DEFINITION. Any frame at either port: the judgement a COMMAND payload calls for (R156, R158), the Router's dispositions
over all frame classes (R107, R109, R112), and the rows UNKNOWN_COMMAND, CAB_PORT_FRAME and CRANE_PORT_FRAME. -/

namespace Sys2Proof.Machine

/-- The judgement of a known command on its arguments (R156, R168). -/
def judgeCommand (windowOpen : Bool) (c : CommandId) (args : Bytes) : State → Answer :=
  match c with
  | .assignAddress => judgeAssignAddress args
  | .readStatus => judgeReadStatus windowOpen args
  | .clearConditions => judgeClearConditions args
  | .guardStart => judgeGuardStart args
  | .guardStop => judgeGuardStop args
  | .serviceEnter => judgeServiceEnter args
  | .serviceExit => judgeServiceExit args
  | .park => judgePark args
  | .parkExit => judgeParkExit args
  | .forceTest => judgeForceTest args
  | .tableWrite => judgeTableWrite args
  | .tableData => judgeTableData args
  | .tableRead => judgeTableRead args
  | .commit => judgeCommit args
  | .cancelCommit => judgeCancelCommit args
  | .store => judgeStore args
  | .reload => judgeReload args
  | .selectAssortment => judgeSelectAssortment args
  | .tare => judgeTare args
  | .fetchLift => judgeFetchLift args
  | .readTally => judgeReadTally args
  | .clearTally => judgeClearTally args
  | .lineReset => judgeLineReset args

/-- The judgement a COMMAND payload calls for: its first byte names the command, or none (R156, R158). -/
def judgePayload (windowOpen : Bool) (payload : Bytes) : State → Answer :=
  match commandOfPayload payload with
  | some c => judgeCommand windowOpen c (payload.drop 1)
  | none => judgeUnknown

/-- UNKNOWN_COMMAND (R158): the body is the whole payload. -/
def execUnknownCommand (p : Packet) (s : State) : Host.Outcome State Fault Refusal :=
  commandEvent (frameOf classCommand p) (judgePayload s.unit.window.isSome p.body) s

/-- A frame of a class with no block of its own: forwarded crane-ward while LINKED, discarded while DARK (R107, R109). -/
def routeOtherCrane (f : Frame) (s : State) : State :=
  match s.router.link with
  | .dark => s
  | .linked => s.forwardCrane f

/-- The Router disposes of any good frame received at the Cab Port (R107, R109). -/
def routeCab (f : Frame) (s : State) : State :=
  if f.cls = classCommand then routeCommand f (judgePayload s.unit.window.isSome f.payload) s
  else if f.cls = classSync then routeSync f s
  else if f.cls = classDemand then routeDemand f s
  else routeOtherCrane f s

/-- The Router disposes of any good frame received at the Crane Port (R107, R112). -/
def routeCrane (f : Frame) (s : State) : State :=
  if f.cls = classSample then routeSample f s
  else
    match s.router.link with
    | .dark => s
    | .linked => if f.cls = classCommand ∧ f.dest = s.router.nodeAddress then s else s.forwardCab f

/-- What a receiver has collected at the Cab Port: nothing where no byte came, a bad frame, or a good one (R104). -/
def cabReception (rx : List RxByte) (pins : Pins) (s : State) : State :=
  if rx.isEmpty then s
  else
    match receiveFrame rx with
    | none => s.latch .crcCab
    | some f => cabPort f (routeCab f) (s.samplePins pins)

/-- What a receiver has collected at the Crane Port (R104). -/
def craneReception (rx : List RxByte) (s : State) : State :=
  if rx.isEmpty then s
  else
    match receiveFrame rx with
    | none => s.latch .crcCrane
    | some f => cranePort f (routeCrane f) s

/-- CAB_PORT_FRAME (R104, R109). -/
def execCabPortFrame (rx : List RxByte) (pins : Pins) (s : State) : Host.Outcome State Fault Refusal :=
  finish (cabReception rx pins s)

/-- CRANE_PORT_FRAME (R104, R112). -/
def execCranePortFrame (rx : List RxByte) (s : State) : Host.Outcome State Fault Refusal :=
  finish (craneReception rx s)

end Sys2Proof.Machine
end

