-- ==== Sys2Proof/Machine/Dispatch.lean ====
section
/-! DEFINITION. One arm per command: its meaning. -/

namespace Sys2Proof.Machine

/-- The effect of a command on everything but the queue. -/
def exec (i : Instr) (s : State) : Host.Outcome State Fault Refusal :=
  match i with
  | .assignAddress p csi => Sys2Proof.Machine.execAssignAddress p csi s
  | .readStatus p => Sys2Proof.Machine.execReadStatus p s
  | .clearConditions p => Sys2Proof.Machine.execClearConditions p s
  | .guardStart p => Sys2Proof.Machine.execGuardStart p s
  | .guardStop p => Sys2Proof.Machine.execGuardStop p s
  | .serviceEnter p skey => Sys2Proof.Machine.execServiceEnter p skey s
  | .serviceExit p => Sys2Proof.Machine.execServiceExit p s
  | .park p => Sys2Proof.Machine.execPark p s
  | .parkExit p => Sys2Proof.Machine.execParkExit p s
  | .forceTest p => Sys2Proof.Machine.execForceTest p s
  | .tableWrite p => Sys2Proof.Machine.execTableWrite p s
  | .tableData p => Sys2Proof.Machine.execTableData p s
  | .tableRead p => Sys2Proof.Machine.execTableRead p s
  | .commit p => Sys2Proof.Machine.execCommit p s
  | .cancelCommit p => Sys2Proof.Machine.execCancelCommit p s
  | .store p => Sys2Proof.Machine.execStore p s
  | .reload p => Sys2Proof.Machine.execReload p s
  | .selectAssortment p => Sys2Proof.Machine.execSelectAssortment p s
  | .tare p => Sys2Proof.Machine.execTare p s
  | .fetchLift p => Sys2Proof.Machine.execFetchLift p s
  | .readTally p => Sys2Proof.Machine.execReadTally p s
  | .clearTally p => Sys2Proof.Machine.execClearTally p s
  | .lineReset p => Sys2Proof.Machine.execLineReset p s
  | .unknownCommand p => Sys2Proof.Machine.execUnknownCommand p s
  | .cabPortFrame rx pins => Sys2Proof.Machine.execCabPortFrame rx pins s
  | .cranePortFrame rx => Sys2Proof.Machine.execCranePortFrame rx s
  | .demand p => Sys2Proof.Machine.execDemand p s
  | .sync p => Sys2Proof.Machine.execSync p s
  | .sample p => Sys2Proof.Machine.execSample p s
  | .frameDeparts port => Sys2Proof.Machine.execFrameDeparts port s
  | .replyJoinsQueue => Sys2Proof.Machine.execReplyJoinsQueue s
  | .lineResetTakesEffect => Sys2Proof.Machine.execLineResetTakesEffect s
  | .powerOnReset => Sys2Proof.Machine.execPowerOnReset s
  | .imageReadEnd => Sys2Proof.Machine.execImageReadEnd s
  | .storeEnd left => Sys2Proof.Machine.execStoreEnd left s
  | .reloadEnd => Sys2Proof.Machine.execReloadEnd s
  | .watchExpiry => Sys2Proof.Machine.execWatchExpiry s
  | .skeyDeassert => Sys2Proof.Machine.execSkeyDeassert s
  | .pendingCommitSwap => Sys2Proof.Machine.execPendingCommitSwap s
  | .liftTimerTick => Sys2Proof.Machine.execLiftTimerTick s
  | .workTimerTick => Sys2Proof.Machine.execWorkTimerTick s
  | .nonvolatileContentLoss lost => Sys2Proof.Machine.execNonvolatileContentLoss lost s

end Sys2Proof.Machine
end

