-- ==== Sys2Proof/WellFormed.lean ====
section
/-! DEFINITION. Which operands a command can have on this block: what a frame and the image can hold. The machine gives
every command an effect, well-formed or not; these checks say what the outside can really send. -/

namespace Sys2Proof

/-- A command row's frame: the payload with its identifier is at most 28 bytes (R102), and a row whose identifier is
another command's would be that command. -/
def Packet.wfCommand (p : Packet) : Bool := p.body.length ≤ 27

/-- A frame row's payload is at most 28 bytes (R102). -/
def Packet.wfPayload (p : Packet) : Bool := p.body.length ≤ 28

/-- An UNKNOWN_COMMAND payload is empty or names no command (R158). -/
def Packet.wfUnknown (p : Packet) : Bool := p.wfPayload && (Machine.commandOfPayload p.body).isNone

/-- A change of the image lies inside its 411 bytes (R170). -/
def ByteChange.wf (c : ByteChange) : Bool := c.offset < 411

/-- A command whose operands the outside can send. -/
def Instr.wf : Instr → Bool
  | .assignAddress p _ => p.wfCommand
  | .readStatus p => p.wfCommand
  | .clearConditions p => p.wfCommand
  | .guardStart p => p.wfCommand
  | .guardStop p => p.wfCommand
  | .serviceEnter p _ => p.wfCommand
  | .serviceExit p => p.wfCommand
  | .park p => p.wfCommand
  | .parkExit p => p.wfCommand
  | .forceTest p => p.wfCommand
  | .tableWrite p => p.wfCommand
  | .tableData p => p.wfCommand
  | .tableRead p => p.wfCommand
  | .commit p => p.wfCommand
  | .cancelCommit p => p.wfCommand
  | .store p => p.wfCommand
  | .reload p => p.wfCommand
  | .selectAssortment p => p.wfCommand
  | .tare p => p.wfCommand
  | .fetchLift p => p.wfCommand
  | .readTally p => p.wfCommand
  | .clearTally p => p.wfCommand
  | .lineReset p => p.wfCommand
  | .unknownCommand p => p.wfUnknown
  | .cabPortFrame rx _ => !rx.isEmpty
  | .cranePortFrame rx => !rx.isEmpty
  | .demand p => p.wfPayload
  | .sync p => p.wfPayload
  | .sample p => p.wfPayload
  | .frameDeparts _ => true
  | .replyJoinsQueue => true
  | .lineResetTakesEffect => true
  | .powerOnReset => true
  | .imageReadEnd => true
  | .storeEnd left => left.all ByteChange.wf
  | .reloadEnd => true
  | .watchExpiry => true
  | .skeyDeassert => true
  | .pendingCommitSwap => true
  | .liftTimerTick => true
  | .workTimerTick => true
  | .nonvolatileContentLoss lost => lost.all ByteChange.wf

end Sys2Proof
end

