-- ==== Sys2Proof/Safety.lean ====
section
/-! DEFINITION. What the claims speak of: the invariants that the rules give the state, the conditions under which a
command is taken, and where its reply goes. -/

namespace Sys2Proof.Machine

/-! ### Invariants -/

/-- The lists of fixed length have it: both banks 409 bytes and the image 411 (R170), eight limit flags (R61), twelve tallies
(R88), eight slots of an open set (R124). -/
def State.SizesOk (s : State) : Prop :=
  s.banks.active.bytes.length = tableSetSize ∧ s.banks.staging.bytes.length = tableSetSize
    ∧ s.store.image.length = tableSetSize + 2 ∧ s.guard.limitFlags.length = 8 ∧ s.tally.tallies.length = 12
    ∧ ∀ o, s.openSet = some o → o.slots.length = quantityCount

/-- Each output queue holds at most 4 frames, and a reply waits in the slot only at a full cab-bound queue (R113, R116). -/
def State.QueuesOk (s : State) : Prop :=
  s.line.cabQueue.length ≤ queueLimit ∧ s.line.craneQueue.length ≤ queueLimit
    ∧ (s.unit.replySlot.isSome → s.line.cabQueue.length = queueLimit)

/-- Node address, link state and CSO move together, and the crane-bound queue of a DARK node is empty (R106). -/
def State.RouterOk (s : State) : Prop :=
  (s.router.link = .dark ∧ s.router.nodeAddress = 0 ∧ s.router.cso = false ∧ s.line.craneQueue = [])
    ∨ (s.router.link = .linked ∧ 1 ≤ s.router.nodeAddress.toNat ∧ s.router.nodeAddress.toNat ≤ 30 ∧ s.router.cso = true)

/-- VEN is asserted exactly when the guard state is HOLD, ENFORCE or SERVICE and the force test is off (R38). -/
def State.VenOk (s : State) : Prop :=
  s.guard.ven = true
    ↔ (s.guard.state = .hold ∨ s.guard.state = .enforce ∨ s.guard.state = .service) ∧ s.guard.forceTest = false

/-- The Envelope Guard's state is one the rules allow: HOLD and ENFORCE only with valid tables (R39), the watch running only
in HOLD and ENFORCE and always in ENFORCE (R41), the warm-up count below 4 and 0 outside HOLD (R40), a tip position present
in ENFORCE (R55), quiet outside ENFORCE and SERVICE (R62), the service key turned in SERVICE (R45, R47). -/
def State.GuardOk (s : State) : Prop :=
  ((s.guard.state = .hold ∨ s.guard.state = .enforce) → s.banks.activeValid = true)
    ∧ (s.guard.watch.isSome → s.guard.state = .hold ∨ s.guard.state = .enforce)
    ∧ (s.guard.state = .enforce → s.guard.watch.isSome ∧ s.tip.isSome)
    ∧ s.guard.warmUp < warmUpLimit ∧ (s.guard.state ≠ .hold → s.guard.warmUp = 0)
    ∧ ((s.guard.state = .blocked ∨ s.guard.state = .hold ∨ s.guard.state = .park) → s.guard.quiet = true)
    ∧ (s.guard.state = .service → s.pins.skey = true)
    ∧ (s.guard.state = .park → s.openSet = none)

/-- The parts of the Lift Unit's state agree with the lift state: EMPTY in BLOCKED, SERVICE and PARK (R37), the context absent
exactly in EMPTY, the timer running exactly outside it (R69, R81), windows and counts only where the rules fill them (R70,
R71), the pick time present from ALOFT on and the weight from WEIGHED on (R69), the grapple CLOSED during a lift and OPEN
during a tare search (R67, R85). -/
def State.LiftOk (s : State) : Prop :=
  ((s.guard.state = .blocked ∨ s.guard.state = .service ∨ s.guard.state = .park) → s.lift.state = .empty)
    ∧ (s.lift.state = .empty ↔ s.lift.context = none)
    ∧ (s.lift.state = .empty ↔ s.lift.timerRunning = false)
    ∧ (s.lift.state ≠ .gripped → s.lift.clearCount = 0)
    ∧ ((s.lift.state = .empty ∨ s.lift.state = .gripped) → s.lift.window = [])
    ∧ (s.lift.state ≠ .empty → s.lift.grapple = .closed ∧ s.lift.search = none)
    ∧ (s.lift.search.isSome → s.lift.grapple = .opened)
    ∧ s.lift.timer ≤ liftTimerLimit
    ∧ ∀ c, s.lift.context = some c →
        c.assortment < 12
          ∧ (c.pickTime.isSome ↔ s.lift.state = .aloft ∨ s.lift.state = .weighed)
          ∧ (c.weighing.isSome ↔ s.lift.state = .weighed)
          ∧ (∀ p, c.pickTime = some p → p ≤ s.lift.timer)

/-- Every tally lies in its ranges (R88), the work timer and the queue in theirs (R95, R99), and the selection names an
assortment (R93). -/
def State.TallyOk (s : State) : Prop :=
  (∀ t, t ∈ s.tally.tallies → t.mass ≤ massLimit ∧ t.loaded ≤ countLimit ∧ t.unloaded ≤ countLimit ∧ t.unweighed ≤ countLimit)
    ∧ s.tally.workTimer ≤ workTimerLimit ∧ s.tally.records.length ≤ recordLimit ∧ s.tally.selected < 12

/-- While a commit is pending no window is open and no reload runs; while a reload runs no window is open (R139, R147,
R154). -/
def State.CommitOk (s : State) : Prop :=
  (s.banks.commit = .pending → s.unit.window = none ∧ s.store.state ≠ .reloading)
    ∧ (s.store.state = .reloading → s.unit.window = none)

/-- While the image read of a reset is in progress, every block holds its reset value (R105, R118, R132, R161, R162). -/
def State.ReadingOk (s : State) : Prop :=
  s.store.reading = true →
    s.openSet = none ∧ s.tip = none ∧ s.capacity = CapacityMonitor.reset ∧ s.guard = EnvelopeGuard.reset
      ∧ s.lift = LiftUnit.reset s.lift.tare ∧ s.tally.selected = 0 ∧ s.tally.records = [] ∧ s.unit = CommandUnit.reset
      ∧ s.banks.commit = .none ∧ s.store.state = .idle

/-- A line reset that is pending has its reply on the way, at one place, and no store, reload, window or command of its own
runs meanwhile (R160, R161). -/
def State.LineResetOk (s : State) : Prop :=
  (s.unit.lineResetPending = true → s.store.state = .idle ∧ s.unit.window = none ∧ s.router.link = .linked)
    ∧ (s.line.cabQueue.countP (fun r => r.origin == .lineResetReply)
        + (if s.unit.replySlot.any (fun r => r.origin == .lineResetReply) then 1 else 0)
      = if s.unit.lineResetPending then 1 else 0)

/-- Outside an image read, every persistent condition whose cause is present is latched (R163). -/
def State.LatchedOk (s : State) : Prop := s.store.reading = false → ∀ c, s.cause c = true → s.isLatched c = true

/-- A Table Set that passes validation, but for the node address, which may change later (R142; R119). -/
def TableSet.Valid (b : TableSet) : Prop := validate b 0 = none

/-- Validated content: the active bank while the active-valid flag is set, staging while a commit is pending, and the image
while it matches (R134, R144, R150). A store runs only with the flag set (R151). -/
def State.ValidOk (s : State) : Prop :=
  (s.store.state = .storing → s.banks.activeValid = true)
    ∧ (s.banks.activeValid = true → s.banks.active.Valid)
    ∧ (s.banks.commit = .pending → s.banks.staging.Valid)
    ∧ (imageMatches s.store.image = true → (imageTables s.store.image).Valid)

/-- The selection names an enabled assortment of the active bank, outside an image read and with valid tables (R94). -/
def State.SelectionOk (s : State) : Prop :=
  s.store.reading = false → s.banks.active.assortmentEnabled s.tally.selected = true

/-- While the active-valid flag is clear, the active bank holds the factory defaults (R121, R136). -/
def State.ActiveOk (s : State) : Prop := s.banks.activeValid = false → s.banks.active = factoryDefaults

/-- The fields of a tip position lie in their ranges and have the presence R17 gives them. -/
def TipPosition.InRange (t : TipPosition) : Prop :=
  t.slew ≤ 3599 ∧ (-300 ≤ t.a1 ∧ t.a1 ≤ 850) ∧ (-1750 ≤ t.a2 ∧ t.a2 ≤ 0) ∧ (0 ≤ t.ext ∧ t.ext ≤ 4000) ∧ t.reach ≤ 15000
    ∧ t.ring = ringOf t.reach ∧ t.sector = sectorOf t.slew
    ∧ (t.zone.cellClass = none ↔ t.ring = .beyond) ∧ (∀ k, t.zone.cellClass = some k → k ≤ 7)
    ∧ t.zone.cap ≤ 1000 ∧ (t.zone.rule = .noEntry → t.zone.cap = 0 ∧ t.zone.bunk = false)
    ∧ (t.zone.derate = none ↔ t.ring = .beyond) ∧ (∀ d, t.zone.derate = some d → 1 ≤ d ∧ d ≤ 100)
    ∧ t.tilt ≤ 849 ∧ t.band = bandOf t.tilt ∧ (t.fallAzimuth = none ↔ t.tilt < 20)
    ∧ (∀ az, t.fallAzimuth = some az → az ≤ 3599) ∧ t.fallSector = t.fallAzimuth.map (fallSectorOf t.slew)
    ∧ (-2000 ≤ t.gross ∧ t.gross ≤ 20000) ∧ t.net ≤ 20000 ∧ (0 ≤ t.grip ∧ t.grip ≤ 3000)
    ∧ (t.capacity = none ↔ t.ring = .beyond ∨ t.band = .beyond) ∧ (∀ c, t.capacity = some c → c ≤ 20000)
    ∧ (t.utilization = none ↔ t.capacity = none) ∧ ∀ u, t.utilization = some u → u ≤ 2000

/-- The range of a calibrated value of quantity `q` (R123). -/
def inQuantityRange (q : Nat) (v : Int) : Prop :=
  match q with
  | 0 => 0 ≤ v ∧ v ≤ 3599
  | 1 => -300 ≤ v ∧ v ≤ 850
  | 2 => -1750 ≤ v ∧ v ≤ 0
  | 3 => 0 ≤ v ∧ v ≤ 4000
  | 4 => -2000 ≤ v ∧ v ≤ 20000
  | 5 => 0 ≤ v ∧ v ≤ 3000
  | _ => -600 ≤ v ∧ v ≤ 600

/-- A weight, its spread and its reach lie in their ranges (R71 to R73). -/
def Weighing.InRange (w : Weighing) : Prop := w.weight ≤ 20000 ∧ w.spread ≤ 20000 ∧ w.reach ≤ 15000

/-- A cell is one of the Zone Map's, or BEYOND (R68). -/
def Cell.InRange (c : Cell) : Prop := ∀ ring sector, c = .at_ ring sector → ring ≤ 4 ∧ sector ≤ 11

/-- The fields of a lift record lie in their ranges (R80, R81). -/
def LiftRecord.InRange (r : LiftRecord) : Prop :=
  r.assortment < 12 ∧ (∀ w, r.weighing = some w → w.InRange) ∧ r.gripCell.InRange
    ∧ (∀ c, r.releaseCell = some c → c.InRange) ∧ (∀ n, r.band = .within n → n ≤ 5)
    ∧ r.pickTime ≤ r.liftTime ∧ r.liftTime ≤ liftTimerLimit

/-- What is measured lies in its ranges: the slots of the open set (R123, R124), the latest tip position (R17), the counts of
the overload filter (R28, R29), the clear count and the weigh window (R70, R71), the lift context and the queued records (R68,
R80), the tare value (R86), and the tare search with its window and count (R84, R85). -/
def State.MeasuredOk (s : State) : Prop :=
  (∀ o, s.openSet = some o → ∀ q v, o.slots[q]? = some (some v) → inQuantityRange q v)
    ∧ (∀ t, s.tip = some t → t.InRange)
    ∧ s.capacity.overloadCount ≤ 50 ∧ s.capacity.releaseCount ≤ 50
    ∧ (s.capacity.overload = .normal → s.capacity.releaseCount = 0)
    ∧ (s.capacity.overload = .overload → s.capacity.overloadCount = 0)
    ∧ s.lift.clearCount < s.banks.active.setting .clearFilter
    ∧ s.lift.window.length ≤ s.banks.active.setting .weighWindow ∧ (∀ m, m ∈ s.lift.window → m ≤ 20000)
    ∧ (∀ c, s.lift.context = some c →
        (∀ w, c.weighing = some w → w.InRange) ∧ c.gripCell.InRange ∧ ∀ n, c.band = .within n → n ≤ 5)
    ∧ (∀ r, r ∈ s.tally.records → r.InRange)
    ∧ s.lift.tare ≤ 2000
    ∧ ∀ w, s.lift.search = some w →
        w.count < 64 ∧ w.window.length ≤ s.banks.active.setting .weighWindow
          ∧ ∀ m, m ∈ w.window → -2000 ≤ m ∧ m ≤ 20000

/-- All the invariants above but those about the content of the tables and those that rest on it. -/
structure State.Inv (s : State) : Prop where
  /-- The lists of fixed length have it. -/
  sizes : s.SizesOk
  /-- The output queues are in bounds. -/
  queues : s.QueuesOk
  /-- Address, link state and CSO move together. -/
  router : s.RouterOk
  /-- VEN follows the guard state and the force test. -/
  ven : s.VenOk
  /-- The guard's state is one the rules allow. -/
  guard : s.GuardOk
  /-- The Lift Unit's state agrees with the lift state. -/
  lift : s.LiftOk
  /-- The tallies are in bounds. -/
  tally : s.TallyOk
  /-- A pending commit keeps staging locked. -/
  commit : s.CommitOk
  /-- The blocks hold their reset values during an image read. -/
  reading : s.ReadingOk
  /-- A pending line reset has its reply on the way. -/
  lineReset : s.LineResetOk
  /-- Persistent conditions with a cause are latched. -/
  latched : s.LatchedOk

/-! ### Commands and their replies -/

/-- The Command Unit takes a command addressed to the CW46: LINKED, no image read, no line reset pending, the reply slot
empty, the frame to the node address (R105, R109, R116, R156, R160). -/
def State.Takes (s : State) (p : Packet) : Prop :=
  s.router.link = .linked ∧ s.store.reading = false ∧ s.unit.lineResetPending = false ∧ s.unit.replySlot = none
    ∧ p.dest = s.router.nodeAddress

/-- The event of a taken command ends: its reply to command `c` from `p`, built from the state the command leaves, joins
the cab-bound queue or waits in the reply slot, and ATTN is driven (R115, R116, R157, R165). -/
def State.replied (s : State) (c : CommandId) (p : Packet) (v : Verdict) (data : Bytes := []) : State :=
  (s.placeReply
    ⟨{ cls := classReply, dest := p.src, src := s.router.nodeAddress, payload := commandCode c :: verdictCode v :: data },
      if s.unit.lineResetPending then .lineResetReply else .reply⟩).driveAttn

/-- How many argument bytes a command has; none for TABLE DATA, whose length depends on the window (R168). -/
def argumentCount : CommandId → Option Nat
  | .assignAddress => some 1
  | .readStatus => some 0
  | .clearConditions => some 4
  | .guardStart => some 0
  | .guardStop => some 0
  | .serviceEnter => some 0
  | .serviceExit => some 0
  | .park => some 0
  | .parkExit => some 0
  | .forceTest => some 1
  | .tableWrite => some 6
  | .tableData => none
  | .tableRead => some 5
  | .commit => some 0
  | .cancelCommit => some 0
  | .store => some 0
  | .reload => some 0
  | .selectAssortment => some 1
  | .tare => some 0
  | .fetchLift => some 0
  | .readTally => some 1
  | .clearTally => some 0
  | .lineReset => some 0

/-- The row of a command, with the levels of the pins at its event. -/
def commandRow (c : CommandId) (p : Packet) (pins : Pins) : Instr :=
  match c with
  | .assignAddress => .assignAddress p pins.csi
  | .readStatus => .readStatus p
  | .clearConditions => .clearConditions p
  | .guardStart => .guardStart p
  | .guardStop => .guardStop p
  | .serviceEnter => .serviceEnter p pins.skey
  | .serviceExit => .serviceExit p
  | .park => .park p
  | .parkExit => .parkExit p
  | .forceTest => .forceTest p
  | .tableWrite => .tableWrite p
  | .tableData => .tableData p
  | .tableRead => .tableRead p
  | .commit => .commit p
  | .cancelCommit => .cancelCommit p
  | .store => .store p
  | .reload => .reload p
  | .selectAssortment => .selectAssortment p
  | .tare => .tare p
  | .fetchLift => .fetchLift p
  | .readTally => .readTally p
  | .clearTally => .clearTally p
  | .lineReset => .lineReset p

/-- The state a command's row works on: ASSIGN ADDRESS samples CSI and SERVICE ENTER samples SKEY (R47, R107). -/
def State.sampledFor (c : CommandId) (pins : Pins) (s : State) : State :=
  match c with
  | .assignAddress => s.samplePins ⟨pins.csi, s.pins.skey⟩
  | .serviceEnter => s.samplePins ⟨s.pins.csi, pins.skey⟩
  | _ => s

/-- The effect of a permitted broadcast on the state with the window closed; no other command has one (R44, R48, R49,
R111). -/
def broadcastEffect (c : CommandId) (s : State) : State :=
  match c with
  | .guardStop => s.enterGuard .blocked false
  | .park => s.enterGuard .park false
  | .parkExit =>
    if s.guard.state = .park then s.enterGuard (if s.banks.activeValid = true then .hold else .blocked) false else s
  | _ => s

/-- What becomes of the COMMAND frame `f`, whose row is `i`, where it is not taken: discarded during an image read (R105),
while DARK unless it is the discovery assignment (R107) and while a line reset is pending (R160), lost at an occupied reply
slot (R117), forwarded to another address (R109) and to 31 (R111). `u` is the state with the pins sampled, `v` the state a
broadcast leaves before it is forwarded. -/
def CommandRouted (i : Instr) (f : Frame) (discovery : Prop) (s u v : State) : Prop :=
  let addressed := (s.router.link = .linked ∧ f.dest = s.router.nodeAddress) ∨ (s.router.link = .dark ∧ discovery)
  (s.store.reading = true → exec i s = .next u.driveAttn)
    ∧ (s.store.reading = false →
        (s.router.link = .dark → ¬discovery → exec i s = .next u.driveAttn)
        ∧ (addressed → s.unit.lineResetPending = true → exec i s = .next u.driveAttn)
        ∧ (addressed → s.unit.lineResetPending = false → s.unit.replySlot.isSome = true →
            exec i s = .next (u.latch .commandLost).driveAttn)
        ∧ (s.router.link = .linked → f.dest ≠ s.router.nodeAddress → f.dest ≠ 31 →
            exec i s = .next (u.forwardCrane f).driveAttn)
        ∧ (s.router.link = .linked → f.dest ≠ s.router.nodeAddress → f.dest = 31 →
            exec i s = .next (v.forwardCrane f).driveAttn))

/-- The bytes of a frame as a receiver collects them, none malformed (R104). -/
def onWire (f : Frame) : List RxByte := f.bytes.map (fun b => ⟨b, false⟩)

end Sys2Proof.Machine
end

