-- ==== Sys2Proof/Certificates/Slice0/Obligations.lean ====
section
/-! DEFINITION. The statements for the provers. A result is stated as the whole next state: what a record update does not
name is unchanged. `State.replied` ends the event of a command with its reply; `OutputQueuesOfFourFrames` says where a
reply goes and `AttentionFollowsMaskAndForceTest` what ATTN is. A clause that rests on a choice of the model names its log
row. -/

section Statements

open Sys2Proof Sys2Proof.Machine

/-! ### The machine -/

/-- One step runs the command at the front of the queue on the queue's rest. -/
def Obligations.StepRunsFrontCommand : Prop :=
  ∀ (c : Instr) (rest : List Instr) (s : State),
    step { s with pending := c :: rest } = exec c { s with pending := rest }

/-- No step stops the machine: every step answers a next state and takes one command from the queue. On an empty queue
the block idles, which is the model's choice (log 1). -/
def Obligations.EveryStepAnswersNextState : Prop :=
  ∀ s : State, ∃ t, step s = .next t ∧ t.pending = s.pending.tail ∧ (s.pending = [] → t = s)

/-- After every command, ATTN is asserted exactly when no image read is in progress and the force test is on or a latched
condition has its bit in the attention mask of the active bank (R165). -/
def Obligations.AttentionFollowsMaskAndForceTest : Prop :=
  ∀ (c : Instr) (s t : State), exec c s = .next t →
    (t.conditions.attn = true ↔
      t.store.reading = false
        ∧ (t.guard.forceTest = true
          ∨ ∃ k : Condition,
              t.isLatched k = true ∧ (t.banks.active.setting .attentionMask).testBit k.bit = true))

/-- The state after reset holds the power-on reset values of every block (R18, R36, R64, R87, R101, R118, R132, R148, R155,
R162, R166). That the store state is IDLE before the image read has ended is the model's choice (log 9), and so is that the
queue of commands begins empty (log 1, 2). -/
def Obligations.ResetStateHoldsResetValues : Prop :=
  State.reset.line = ⟨[], []⟩ ∧ State.reset.router = ⟨0, .dark, false⟩ ∧ State.reset.unit = ⟨none, none, false⟩
    ∧ State.reset.openSet = none ∧ State.reset.tip = none ∧ State.reset.capacity = ⟨.normal, 0, 0⟩
    ∧ State.reset.guard = ⟨.blocked, true, 0, none, false, List.replicate 8 .passed, false, false⟩
    ∧ State.reset.lift.grapple = .opened ∧ State.reset.lift.state = .empty ∧ State.reset.lift.clearCount = 0
    ∧ State.reset.lift.context = none ∧ State.reset.lift.window = [] ∧ State.reset.lift.timer = 0
    ∧ State.reset.lift.timerRunning = false ∧ State.reset.lift.search = none
    ∧ State.reset.tally = ⟨List.replicate 12 ⟨0, 0, 0, 0⟩, 0, 0, [], 0⟩
    ∧ State.reset.banks.commit = .none ∧ State.reset.store.state = .idle ∧ State.reset.store.reading = true
    ∧ (∀ k : Condition, State.reset.isLatched k = true ↔ k = .powerOn) ∧ State.reset.conditions.attn = false
    ∧ State.reset.pending = []

/-- The state after reset meets every invariant. The banks and the tare value that it holds before the image read ends are
the model's choice (log 8, 10). -/
def Obligations.ResetStateMeetsInvariants : Prop :=
  State.reset.Inv ∧ State.reset.ValidOk ∧ State.reset.ActiveOk ∧ State.reset.MeasuredOk ∧ State.reset.SelectionOk

/-- POWER_ON_RESET gives every block its power-on reset value from every state; the image is kept, but a store cut off
leaves it not matching (R153, R162). That the banks, the valid flags and the tare value stand until the image read ends, and
that the store state is IDLE at once, is the model's choice (log 9). -/
def Obligations.PowerOnResetValues : Prop :=
  ∀ s : State, ∃ (image : Bytes) (draws : Nat),
    exec .powerOnReset s
        = .next { State.reset with
            lift := { State.reset.lift with tare := s.lift.tare }
            banks := { s.banks with commit := .none }
            store := ⟨image, s.store.imageValid, .idle, true⟩
            pins := s.pins
            freeDraws := draws
            pending := s.pending }
      ∧ (s.store.state ≠ .storing → image = s.store.image)
      ∧ (s.store.state = .storing → imageMatches image = false)

/-- LINE_RESET is refused or makes a line reset pending (R160). That its reply carries a mark by which its departure is known
is the model's (log 7). The pending line reset takes effect when that reply departs from the head of the cab-bound queue, or,
given as the event of its own (log 6), when the reply waits nowhere behind another frame (R161). Every block then has its line
reset value: the router, the tallies, the work timer and the sequence counter are kept. That the banks, the valid flags and
the tare value stand until the image read ends, and that the store state is IDLE at once, is the model's choice (log 9). -/
def Obligations.LineResetPendsUntilItsReplyDeparts : Prop :=
  (∀ (s : State) (p : Packet), s.Takes p → p.body.length ≤ 27 →
    exec (.lineReset p) s
      = .next
        (if p.body.length ≠ 0 then s.closeWindow.replied .lineReset p (.refused .badArgument)
        else if s.store.state = .storing ∨ s.store.state = .reloading then
          s.closeWindow.replied .lineReset p (.refused .busy)
        else ({ s.closeWindow with unit := { s.closeWindow.unit with lineResetPending := true } }).replied .lineReset p
          .done))
  ∧ ∀ (s : State) (i : Instr), s.unit.lineResetPending = true →
    ((i = .frameDeparts .cab ∧ s.line.cabQueue.head?.map (·.origin) = some .lineResetReply)
      ∨ (i = .lineResetTakesEffect ∧ s.unit.replySlot.any (fun r => r.origin == .lineResetReply) = false
          ∧ ∀ r, r ∈ s.line.cabQueue.tail → r.origin ≠ .lineResetReply)) →
    exec i s
      = .next { State.reset with
          router := s.router
          lift := { State.reset.lift with tare := s.lift.tare }
          tally := { s.tally with selected := 0, records := [] }
          banks := { s.banks with commit := .none }
          store := { s.store with state := .idle, reading := true }
          conditions := ⟨0, false⟩
          pins := s.pins
          freeDraws := s.freeDraws
          pending := s.pending }

/-! ### The Command Unit and the Router -/

/-- ASSIGN_ADDRESS, taken while DARK at address 0 with CSI asserted or while LINKED at the node address (R107, R108). That CSI
comes as an operand and is held as sampled is the model's choice (log 4), and so is the order of the rows where the argument
equals both the node address and the valve block address (log 28). -/
def Obligations.AssignAddressJudged : Prop :=
  ∀ (s : State) (p : Packet) (csi : Bool), s.RouterOk → p.body.length ≤ 27 →
    s.store.reading = false → s.unit.lineResetPending = false → s.unit.replySlot = none →
    ((s.router.link = .dark ∧ p.dest = 0 ∧ csi = true) ∨ (s.router.link = .linked ∧ p.dest = s.router.nodeAddress)) →
    let a := u8At p.body 0
    let u := (s.samplePins ⟨csi, s.pins.skey⟩).closeWindow
    exec (.assignAddress p csi) s
      = .next
        (if p.body.length ≠ 1 ∨ a = 0 ∨ 31 ≤ a
            ∨ (a = s.banks.active.setting .valveAddress ∧ s.banks.activeValid = true) then
          u.replied .assignAddress p (.refused .badArgument)
        else ({ u with router := ⟨BitVec.ofNat 5 a, .linked, true⟩ }).replied .assignAddress p .done)

/-- READ_STATUS answers the status record of the state with the window closed, with the window as it was before (R159); what
the closing of the window is (R140). -/
def Obligations.ReadStatusAnswersRecord : Prop :=
  (∀ (s : State) (p : Packet), s.Takes p → p.body = [] →
    exec (.readStatus p) s
      = .next (s.closeWindow.replied .readStatus p .done (statusRecord s.unit.window.isSome s.closeWindow)))
  ∧ ∀ s : State, s.closeWindow = { s with unit := { s.unit with window := none } }

/-- The four records stand in their bytes as their layouts give: status, lift, tally and totals; the small encodings (R169),
and how fields are read from bytes, most significant byte first (R1, R167). -/
def Obligations.RecordsStandInTheirLayouts : Prop :=
  (∀ (windowOpen : Bool) (s : State),
    s.guard.limitFlags.length = 8 → s.tally.selected < 12 → s.lift.tare ≤ 2000 → s.tally.records.length ≤ 24 →
    (∀ t, s.tip = some t →
      ringCode t.ring ≤ 5 ∧ t.sector < 12 ∧ bandCode t.band ≤ 6 ∧ (∀ f, t.fallSector = some f → f < 12)
        ∧ (∀ u, t.utilization = some u → u ≤ 2000) ∧ t.net ≤ 20000 ∧ t.reach ≤ 15000 ∧ t.slew ≤ 3599) →
    let r := statusRecord windowOpen s
    r.length = 26
      ∧ bitField (u8At r 0) 7 1 = flagBit (s.router.link == .linked)
      ∧ bitField (u8At r 0) 0 5 = s.router.nodeAddress.toNat
      ∧ bitField (u8At r 1) 5 3 = guardCode s.guard.state ∧ bitField (u8At r 1) 4 1 = flagBit s.guard.forceTest
      ∧ bitField (u8At r 1) 2 2 = liftCode s.lift.state
      ∧ bitField (u8At r 1) 1 1 = flagBit (s.lift.grapple == .closed)
      ∧ bitField (u8At r 1) 0 1 = flagBit s.lift.search.isSome
      ∧ (∀ i f, s.guard.limitFlags[i]? = some f → bitField (u16At r 2) (2 * i) 2 = limitCode f)
      ∧ bitField (u16At r 4) 12 4 = s.tally.selected ∧ bitField (u16At r 4) 0 11 = s.lift.tare
      ∧ bitField (u8At r 6) 5 1 = flagBit (s.banks.commit == .pending) ∧ bitField (u8At r 6) 4 1 = flagBit windowOpen
      ∧ bitField (u8At r 6) 3 1 = flagBit s.banks.activeValid ∧ bitField (u8At r 6) 1 2 = storeCode s.store.state
      ∧ bitField (u8At r 6) 0 1 = flagBit s.store.imageValid
      ∧ u8At r 7 = s.tally.records.length
      ∧ (∀ k : Condition, (u32At r 8).testBit k.bit = s.isLatched k)
      ∧ (∀ k : Condition, (u32At r 12).testBit k.bit = s.cause k)
      ∧ (s.tip = none → ∀ k, 16 ≤ k → k < 26 → u8At r k = 255)
      ∧ (∀ t, s.tip = some t →
          bitField (u8At r 16) 4 3 = ringCode t.ring ∧ bitField (u8At r 16) 0 4 = t.sector
            ∧ bitField (u8At r 17) 4 3 = bandCode t.band ∧ bitField (u8At r 17) 0 4 = t.fallSector.getD 15
            ∧ u16At r 18 = t.utilization.getD 65535 ∧ u16At r 20 = t.net ∧ u16At r 22 = t.reach
            ∧ u16At r 24 = t.slew))
  ∧ (∀ r : LiftRecord,
      r.assortment < 12 → bandCode r.band ≤ 6 → r.pickTime ≤ 1048575 → r.liftTime ≤ 1048575 →
      (∀ w, r.weighing = some w → w.weight ≤ 20000 ∧ w.spread ≤ 20000 ∧ w.reach ≤ 15000) →
      let b := liftRecordBytes r
      b.length = 19 ∧ u16At b 0 = r.sequence.toNat
        ∧ bitField (u8At b 2) 7 1 = flagBit r.holdSeen ∧ bitField (u8At b 2) 6 1 = flagBit r.overloadSeen
        ∧ bitField (u8At b 2) 0 3 = kindCode r.kind ∧ u8At b 3 = r.assortment
        ∧ u16At b 4 = (r.weighing.map (·.weight)).getD 65535 ∧ u16At b 6 = (r.weighing.map (·.spread)).getD 65535
        ∧ u16At b 8 = (r.weighing.map (·.reach)).getD 65535
        ∧ u8At b 10 = (cellByte r.gripCell).toNat
        ∧ u8At b 11 = ((r.releaseCell.map cellByte).getD 255).toNat
        ∧ u8At b 12 = bandCode r.band
        ∧ u8At b 13 * 65536 + u16At b 14 = r.pickTime ∧ u8At b 16 * 65536 + u16At b 17 = r.liftTime)
  ∧ (∀ ring sector, ring < 5 → sector < 12 →
      bitField (cellByte (.at_ ring sector)).toNat 4 3 = ring ∧ bitField (cellByte (.at_ ring sector)).toNat 0 4 = sector)
  ∧ cellByte .beyond = 0x5F#8
  ∧ (∀ (b : TableSet) (i : Nat) (t : Tally), i < 12 →
      t.mass ≤ 999999 → t.loaded ≤ 65535 → t.unloaded ≤ 65535 → t.unweighed ≤ 65535 →
      let r := tallyBytes b i t
      r.length = 15 ∧ u8At r 0 = i ∧ u32At r 1 = t.mass ∧ u16At r 5 = t.loaded ∧ u16At r 7 = t.unloaded
        ∧ u16At r 9 = t.unweighed ∧ u8At r 11 = flagBit (b.assortmentEnabled i)
        ∧ ∀ k, k < 3 → u8At r (12 + k) = b.byte .assortments i (1 + k))
  ∧ (∀ u : TallyUnit, u.tallies.length = 12 →
      (∀ t, t ∈ u.tallies → t.mass ≤ 999999 ∧ t.loaded ≤ 65535 ∧ t.unloaded ≤ 65535 ∧ t.unweighed ≤ 65535) →
      u.workTimer ≤ 4294967295 →
      let r := totalsBytes u
      r.length = 21 ∧ u8At r 0 = 12 ∧ u32At r 1 = (u.tallies.map (·.mass)).sum
        ∧ u32At r 5 = (u.tallies.map (·.loaded)).sum ∧ u32At r 9 = (u.tallies.map (·.unloaded)).sum
        ∧ u32At r 13 = (u.tallies.map (·.unweighed)).sum ∧ u32At r 17 = u.workTimer / 100)
  ∧ (([.blocked, .hold, .enforce, .service, .park] : List GuardState).map guardCode = [0, 1, 2, 3, 4]
      ∧ ([.empty, .gripped, .aloft, .weighed] : List LiftState).map liftCode = [0, 1, 2, 3]
      ∧ ([.idle, .storing, .reloading] : List StoreState).map storeCode = [0, 1, 2]
      ∧ ([.passed, .capped, .zeroedZone, .zeroedLoad] : List LimitFlag).map limitCode = [0, 1, 2, 3]
      ∧ ([.loaded, .unloaded, .reshuffled, .returned, .abandoned] : List LiftKind).map kindCode = [0, 1, 2, 3, 4]
      ∧ (∀ n, ringCode (.within n) = n ∧ bandCode (.within n) = n) ∧ ringCode .beyond = 5 ∧ bandCode .beyond = 6
      ∧ flagBit false = 0 ∧ flagBit true = 1)
  ∧ (∀ (b : Bytes) (k : Nat),
      u8At b k = (b.getD k 0).toNat ∧ u16At b k = u8At b k * 256 + u8At b (k + 1)
        ∧ u32At b k = u16At b k * 65536 + u16At b (k + 2))
  ∧ (∀ n lo width : Nat, bitField n lo width = n / 2 ^ lo % 2 ^ width)
  ∧ ∀ n : Nat,
      (byteOf n).toNat = n % 256 ∧ bytes16 n = [byteOf (n / 256), byteOf n] ∧ bytes32 n = bytes16 (n / 65536) ++ bytes16 n

/-- CLEAR_CONDITIONS clears the conditions its mask names, but for those whose cause is present, and answers the latched set
as it then stands; a mask with a bit above bit 24 is refused (R164). -/
def Obligations.ClearConditionsKeepsPresentCauses : Prop :=
  ∀ (s : State) (p : Packet), s.Takes p → p.body.length = 4 →
    (u32At p.body 0 < 2 ^ 25 →
      ∃ latched : BitVec 25,
        exec (.clearConditions p) s
            = .next (({ s.closeWindow with conditions := { s.conditions with latched := latched } }).replied
                .clearConditions p .done (bytes32 latched.toNat))
          ∧ ∀ k : Condition,
              latched.getLsbD k.bit = (s.isLatched k && (!(u32At p.body 0).testBit k.bit || s.cause k)))
    ∧ (2 ^ 25 ≤ u32At p.body 0 →
        exec (.clearConditions p) s = .next (s.closeWindow.replied .clearConditions p (.refused .badArgument)))

/-- The causes of the persistent conditions; an event condition has none (R19, R32, R33, R43, R50, R92, R149, R163). The bit of
each condition, and what latching and judging a condition do: a latch adds one condition to the latched set and nothing else
(R163). -/
def Obligations.PersistentCausesFollowState : Prop :=
  (∀ s : State,
    (s.cause .imageInvalid = true ↔ s.store.imageValid = false)
      ∧ (s.cause .sampleStale = true ↔ s.guard.stale = true)
      ∧ (s.cause .outOfMap = true ↔ ∃ t, s.tip = some t ∧ t.band = .beyond)
      ∧ (s.cause .zoneViolation = true ↔ ∃ t, s.tip = some t ∧ t.zone.rule = .noEntry)
      ∧ (s.cause .nearCapacity = true ↔
          ∃ t u, s.tip = some t ∧ t.utilization = some u ∧ s.banks.active.setting .warn ≤ u)
      ∧ (s.cause .overload = true ↔ s.capacity.overload = .overload)
      ∧ (s.cause .bunkNear = true ↔
          s.banks.active.setting .bunkLimit * s.banks.active.setting .bunkNear
            ≤ (s.tally.tallies.map (·.mass)).sum * 1000)
      ∧ (s.cause .bunkFull = true ↔ s.banks.active.setting .bunkLimit ≤ (s.tally.tallies.map (·.mass)).sum)
      ∧ (s.cause .forced = true ↔ s.guard.forceTest = true)
      ∧ ∀ k : Condition, k ∉ persistentConditions → s.cause k = false)
  ∧ ([.powerOn, .imageInvalid, .crcCab, .crcCrane, .fwdDrop, .commandLost, .valveReject, .sampleStale, .outOfMap,
        .zoneViolation, .zoneStop, .nearCapacity, .overload, .bunkNear, .bunkFull, .tallyUnderrun, .queueOverflow, .tareDone,
        .tareFailed, .swapDone, .storeDone, .storeFailed, .serviceKeyLost, .forced, .liftAbandoned] : List Condition).map
        Condition.bit = List.range 25
  ∧ ∀ (s : State) (k : Condition),
      s.isLatched k = s.conditions.latched.getLsbD k.bit
        ∧ s.latch k = { s with conditions := { s.conditions with latched := (s.latch k).conditions.latched } }
        ∧ (∀ j, (s.latch k).isLatched j = (decide (j = k) || s.isLatched j))
        ∧ s.judge k true = s.latch k ∧ s.judge k false = s

/-- A payload the Command Unit cannot carry out is refused: an empty one and an unknown identifier with UNKNOWN_COMMAND, a
known one of the wrong length, and TABLE DATA of no whole number of entries, with BAD_ARGUMENT (R139, R158). That the pins'
levels come as operands and are held as sampled is the model's choice (log 4). The identifiers of the commands and the result
bytes of the replies (R168). -/
def Obligations.MalformedCommandsRefused : Prop :=
  (∀ (s : State) (p : Packet), s.Takes p → p.body.length ≤ 28 → commandOfPayload p.body = none →
    exec (.unknownCommand p) s
      = .next (s.closeWindow.placeReply
          ⟨{ cls := classReply, dest := p.src, src := s.router.nodeAddress, payload := [p.body.headD 255, 27] },
            .reply⟩).driveAttn)
  ∧ (∀ (c : CommandId) (n : Nat) (s : State) (p : Packet) (pins : Pins),
      argumentCount c = some n → s.Takes p → p.body.length ≤ 27 → p.body.length ≠ n →
      exec (commandRow c p pins) s
        = .next ((s.sampledFor c pins).closeWindow.replied c p (.refused .badArgument)))
  ∧ (∀ (s : State) (p : Packet) (w : Window),
      s.Takes p → p.body.length ≤ 27 → s.store.state ≠ .reloading → s.unit.window = some w →
      (p.body.length = 0 ∨ p.body.length % w.table.entrySize ≠ 0) →
      exec (.tableData p) s = .next (s.replied .tableData p (.refused .badArgument)))
  ∧ (∀ (b : Byte) (args : Bytes) (c : CommandId), commandOfPayload (b :: args) = some c ↔ commandCode c = b)
  ∧ ([.assignAddress, .readStatus, .clearConditions, .guardStart, .guardStop, .serviceEnter, .serviceExit, .park, .parkExit,
        .forceTest, .tableWrite, .tableData, .tableRead, .commit, .cancelCommit, .store, .reload, .selectAssortment, .tare,
        .fetchLift, .readTally, .clearTally, .lineReset] : List CommandId).map (fun c => (commandCode c).toNat)
      = [1, 2, 3, 16, 17, 18, 19, 20, 21, 22, 32, 33, 34, 35, 36, 37, 38, 48, 49, 50, 51, 52, 63]
  ∧ ((verdictCode .done).toNat = 0 ∧ (verdictCode .accepted).toNat = 1
      ∧ ([.busy, .wrongState, .badArgument, .stagingLocked, .noWindow, .notEmpty, .empty, .noTables, .invalidTable,
            .imageInvalid, .noKey, .unknownCommand] : List Reason).map (fun r => (verdictCode (.refused r)).toNat)
          = [16, 17, 18, 19, 20, 21, 22, 23, 24, 25, 26, 27])

/-- A COMMAND frame that is not taken, of a known command and of none: discarded during an image read (R105), while DARK
(R107) and while a line reset is pending (R160), lost at an occupied reply slot, the discovery assignment while DARK included
(R117), forwarded to another address (R109), and forwarded as a broadcast, taken first where it is a permitted one (R111). That
the pins' levels come as operands and are held as sampled, also by a frame that is discarded, is the model's choice (log 4). -/
def Obligations.CommandFramesRouted : Prop :=
  (∀ (c : CommandId) (p : Packet) (pins : Pins) (s : State), p.body.length ≤ 27 →
    let u := s.sampledFor c pins
    CommandRouted (commandRow c p pins) (commandFrame c p) (c = .assignAddress ∧ p.dest = 0 ∧ pins.csi = true) s u
      (if (c = .guardStop ∨ c = .park ∨ c = .parkExit) ∧ p.body = [] ∧ s.unit.lineResetPending = false then
        broadcastEffect c u.closeWindow
      else u))
  ∧ ∀ (p : Packet) (s : State), p.body.length ≤ 28 → commandOfPayload p.body = none →
      CommandRouted (.unknownCommand p) (frameOf classCommand p) False s s s

/-! ### The line -/

/-- Where a frame goes: forwarded frames join an output queue of fewer than 4 frames and are dropped with FWD_DROP
otherwise; a reply joins or waits in the reply slot (R114, R115). FRAME_DEPARTS removes the oldest frame of its queue; a reply
that waits takes the place freed at the Cab Port, and REPLY_JOINS_QUEUE lets it join where there is room (R113, R116). -/
def Obligations.OutputQueuesOfFourFrames : Prop :=
  (∀ (s : State) (f : Frame) (r : OutFrame),
     (s.line.craneQueue.length < 4 →
       s.forwardCrane f = { s with line := { s.line with craneQueue := s.line.craneQueue ++ [f] } })
       ∧ (4 ≤ s.line.craneQueue.length → s.forwardCrane f = s.latch .fwdDrop)
       ∧ (s.line.cabQueue.length < 4 →
           s.forwardCab f = { s with line := { s.line with cabQueue := s.line.cabQueue ++ [⟨f, .forwarded⟩] } })
       ∧ (4 ≤ s.line.cabQueue.length → s.forwardCab f = s.latch .fwdDrop)
       ∧ (s.line.cabQueue.length < 4 →
           s.placeReply r = { s with line := { s.line with cabQueue := s.line.cabQueue ++ [r] } })
       ∧ (4 ≤ s.line.cabQueue.length → s.placeReply r = { s with unit := { s.unit with replySlot := some r } }))
  ∧ (∀ s : State,
       (∀ f rest, s.line.craneQueue = f :: rest →
         exec (.frameDeparts .crane) s = .next ({ s with line := { s.line with craneQueue := rest } }).driveAttn)
       ∧ (∀ f rest, s.line.cabQueue = f :: rest → rest.length < 4 →
           ¬(s.unit.lineResetPending = true ∧ f.origin = .lineResetReply) →
           (s.unit.replySlot = none →
             exec (.frameDeparts .cab) s = .next ({ s with line := { s.line with cabQueue := rest } }).driveAttn)
           ∧ (∀ r, s.unit.replySlot = some r →
               exec (.frameDeparts .cab) s
                 = .next ({ s with
                     line := { s.line with cabQueue := rest ++ [r] }
                     unit := { s.unit with replySlot := none } }).driveAttn))
       ∧ (∀ r, s.unit.replySlot = some r → s.line.cabQueue.length < 4 →
           exec .replyJoinsQueue s
             = .next ({ s with
                 line := { s.line with cabQueue := s.line.cabQueue ++ [r] }
                 unit := { s.unit with replySlot := none } }).driveAttn))

/-- A receiver that collects the bytes of a frame hands that frame on, and a frame handed on has the bytes collected (R104).
The bytes of a frame: class and destination share byte 0, spare bits and source byte 1, the payload's length is byte 2, the
payload follows and the check byte over all bytes before it stands last (R102, R167). The check: its register from all ones, a
byte combined with it, and eight shifts (R103). -/
def Obligations.ReceptionReturnsTheFrameSent : Prop :=
  (∀ f : Frame, f.payload.length ≤ 28 → receiveFrame (onWire f) = some f)
  ∧ (∀ (rx : List RxByte) (f : Frame), receiveFrame rx = some f →
      f.payload.length ≤ 28 ∧ f.bytes = rx.map (·.value))
  ∧ (∀ f : Frame, f.payload.length ≤ 28 →
      u8At f.bytes 0 = f.cls.toNat * 32 + f.dest.toNat ∧ u8At f.bytes 1 = f.spare.toNat * 32 + f.src.toNat
        ∧ u8At f.bytes 2 = f.payload.length ∧ f.bytes.length = f.payload.length + 4
        ∧ f.bytes.drop 3 = f.payload ++ [crc8 (f.bytes.take (3 + f.payload.length))])
  ∧ crc8 [] = 0xFF#8
  ∧ ∀ (bytes : Bytes) (b : Byte),
      crc8 (bytes ++ [b])
        = Nat.repeat (fun r : BitVec 8 => if 2 ^ 7 ≤ r.toNat then (r <<< 1) ^^^ 0x1D#8 else r <<< 1) 8 (crc8 bytes ^^^ b)

/-- The five tests of a good frame, and what a bad frame does at either port in every state: it latches the port's condition
and nothing else. A line that falls idle with no byte gives no frame (R104). -/
def Obligations.BadFramesLatchTheirPort : Prop :=
  (∀ rx : List RxByte,
    (receiveFrame rx).isSome = true ↔
      4 ≤ rx.length ∧ rx.length ≤ 32 ∧ u8At (rx.map (·.value)) 2 ≤ 28 ∧ u8At (rx.map (·.value)) 2 + 4 = rx.length
        ∧ crc8 (rx.map (·.value)).dropLast = (rx.map (·.value)).getLastD 0 ∧ ∀ b, b ∈ rx → b.malformed = false)
  ∧ (∀ (rx : List RxByte) (pins : Pins) (s : State), rx ≠ [] → receiveFrame rx = none →
      exec (.cabPortFrame rx pins) s = .next (s.latch .crcCab).driveAttn
        ∧ exec (.cranePortFrame rx) s = .next (s.latch .crcCrane).driveAttn)
  ∧ ∀ (pins : Pins) (s : State),
      exec (.cabPortFrame [] pins) s = .next s.driveAttn ∧ exec (.cranePortFrame []) s = .next s.driveAttn

/-- A frame that has a row of its own does the same as bytes on the line as it does through its row (log 3). The other
frames: at the Cab Port REPLY, SAMPLE and PASS frames, at the Crane Port every class but SAMPLE, are forwarded while LINKED,
but for a COMMAND to the CW46 from the crane side, and discarded while DARK; the Cab Port discards during an image read (R105,
R107, R109, R112). That a row and its frame are one event is the model's choice (log 3), and so is that the Cab Port's frame
carries the pins' levels, held as sampled also where it is discarded, but for SKEY in SERVICE, whose fall is an event of its own
(log 4). -/
def Obligations.ReceivedFramesReachTheirRows : Prop :=
  (∀ (p : Packet) (pins : Pins) (s : State),
     (∀ c : CommandId, p.body.length ≤ 27 →
       exec (.cabPortFrame (onWire (commandFrame c p)) pins) s = exec (commandRow c p pins) (s.samplePins pins))
     ∧ (p.body.length ≤ 28 →
         (commandOfPayload p.body = none →
           exec (.cabPortFrame (onWire (frameOf classCommand p)) pins) s = exec (.unknownCommand p) (s.samplePins pins))
         ∧ exec (.cabPortFrame (onWire (frameOf classDemand p)) pins) s = exec (.demand p) (s.samplePins pins)
         ∧ exec (.cabPortFrame (onWire (frameOf classSync p)) pins) s = exec (.sync p) (s.samplePins pins)
         ∧ exec (.cranePortFrame (onWire (frameOf classSample p))) s = exec (.sample p) s))
  ∧ (∀ (f : Frame) (pins : Pins) (s : State), f.payload.length ≤ 28 →
       (f.cls ≠ classCommand → f.cls ≠ classSync → f.cls ≠ classDemand →
         exec (.cabPortFrame (onWire f) pins) s
           = .next (if s.store.reading = true ∨ s.router.link = .dark then s.samplePins pins
               else (s.samplePins pins).forwardCrane f).driveAttn)
       ∧ (f.cls ≠ classSample →
           exec (.cranePortFrame (onWire f)) s
             = .next (if s.router.link = .dark ∨ (f.cls = classCommand ∧ f.dest = s.router.nodeAddress) then s
                 else s.forwardCab f).driveAttn))
  ∧ ∀ (s : State) (p : Pins),
      s.samplePins p = { s with pins := ⟨p.csi, if s.guard.state = .service then s.pins.skey else p.skey⟩ }

/-! ### The Envelope Guard -/

/-- GUARD_START: the three refusals in their order, then HOLD with the entry actions (R37, R39). -/
def Obligations.GuardStartEntersHold : Prop :=
  ∀ (s : State) (p : Packet), s.Takes p → s.LiftOk → p.body = [] →
    exec (.guardStart p) s
      = .next
        (if s.guard.state ≠ .blocked then s.closeWindow.replied .guardStart p (.refused .wrongState)
        else if s.banks.commit = .pending then s.closeWindow.replied .guardStart p (.refused .busy)
        else if s.banks.activeValid = false then s.closeWindow.replied .guardStart p (.refused .noTables)
        else ({ s.closeWindow with
          guard := { s.guard with
            state := .hold
            quiet := true
            limitFlags := List.replicate 8 .passed
            warmUp := 0
            watch := some (s.banks.active.setting .staleTimeout)
            ven := !s.guard.forceTest } }).replied .guardStart p .done)

/-- GUARD_STOP enters BLOCKED and PARK enters PARK from every guard state; PARK_EXIT leaves PARK for HOLD or BLOCKED by the
active-valid flag and is refused elsewhere (R44, R48, R49). SERVICE_ENTER by guard state and service key, SERVICE_EXIT, and
SKEY_DEASSERT in SERVICE and elsewhere (R45, R46, R47). That SKEY comes as an operand and is held as sampled is the model's
choice (log 4). -/
def Obligations.GuardCommandsChangeState : Prop :=
  (∀ (s : State) (p : Packet), s.Takes p → p.body = [] →
    exec (.guardStop p) s = .next ((s.closeWindow.enterGuard .blocked false).replied .guardStop p .done)
      ∧ exec (.park p) s = .next ((s.closeWindow.enterGuard .park false).replied .park p .done)
      ∧ (s.guard.state = .park →
          exec (.parkExit p) s
            = .next ((s.closeWindow.enterGuard (if s.banks.activeValid = true then .hold else .blocked) false).replied
                .parkExit p .done))
      ∧ (s.guard.state ≠ .park →
          exec (.parkExit p) s = .next (s.closeWindow.replied .parkExit p (.refused .wrongState))))
  ∧ (∀ (s : State) (p : Packet) (skey : Bool), s.Takes p → p.body = [] →
    let u := (s.samplePins ⟨s.pins.csi, skey⟩).closeWindow
    exec (.serviceEnter p skey) s
      = .next
        (if s.guard.state = .hold ∨ s.guard.state = .service ∨ s.guard.state = .park then
          u.replied .serviceEnter p (.refused .wrongState)
        else if skey = false then u.replied .serviceEnter p (.refused .noKey)
        else (u.enterGuard .service false).replied .serviceEnter p .done))
  ∧ (∀ (s : State) (p : Packet), s.Takes p → p.body = [] →
      exec (.serviceExit p) s
        = .next
          (if s.guard.state = .service then (s.closeWindow.enterGuard .blocked false).replied .serviceExit p .done
          else s.closeWindow.replied .serviceExit p (.refused .wrongState)))
  ∧ ∀ s : State,
      let u := { s with pins := { s.pins with skey := false } }
      exec .skeyDeassert s
        = .next (if s.guard.state = .service then (u.enterGuard .blocked false).latch .serviceKeyLost else u).driveAttn

/-- A change of guard state carries out the entry actions in their order: state and VEN; quiet, limit flags, warm-up count;
watch timer; the Lift Unit, which goes on in HOLD with HOLD_SEEN set and its clear count or weigh window empty (R75) and ends
its lift elsewhere; the attempt of a pending commit. PARK discards the open set. A state entered from itself is no change (R37,
R130). -/
def Obligations.EntryActionsInOrder : Prop :=
  ∀ (s : State) (g : GuardState) (byExpiry : Bool),
    (s.guard.state = g → s.enterGuard g byExpiry = s)
      ∧ (s.guard.state ≠ g →
          let u := { s with
            guard := { s.guard with
              state := g
              quiet := true
              limitFlags := List.replicate 8 .passed
              warmUp := 0
              watch := if g = GuardState.hold then (if byExpiry then none else some (s.banks.active.setting .staleTimeout))
                else if g = GuardState.enforce then s.guard.watch else none
              ven := (g == GuardState.hold || g == GuardState.enforce || g == GuardState.service) && !s.guard.forceTest }
            openSet := if g = GuardState.park then none else s.openSet }
          s.enterGuard g byExpiry
            = (if g = GuardState.hold then { u with lift := u.lift.enterHold }
              else if g = GuardState.enforce then u
              else if g = GuardState.blocked then u.abandonLift
              else u.abandonLift.failSearch).attemptSwap)
      ∧ (s.lift.state = .empty → s.lift.enterHold = s.lift)
      ∧ ∀ c, s.lift.context = some c →
          (s.lift.state = .gripped →
            s.lift.enterHold = { s.lift with context := some { c with holdSeen := true }, clearCount := 0 })
          ∧ (s.lift.state = .aloft ∨ s.lift.state = .weighed →
              s.lift.enterHold = { s.lift with context := some { c with holdSeen := true }, window := [] })

/-- FORCE_TEST on and off; repeated, it changes nothing; another argument is refused (R38, R50). -/
def Obligations.ForceTestSwitchesEnable : Prop :=
  ∀ (s : State) (p : Packet) (x : Byte), s.Takes p → s.VenOk → p.body = [x] →
    exec (.forceTest p) s
      = .next
        (if x = 1 then
          (if s.guard.forceTest = true then s.closeWindow
            else ({ s.closeWindow with guard := { s.guard with forceTest := true, ven := false } }).latch .forced).replied
            .forceTest p .done
        else if x = 0 then
          ({ s.closeWindow with
            guard := { s.guard with
              forceTest := false
              ven := s.guard.state == GuardState.hold || s.guard.state == GuardState.enforce
                || s.guard.state == GuardState.service } }).replied
            .forceTest p .done
        else s.closeWindow.replied .forceTest p (.refused .badArgument))

/-- WATCH_EXPIRY of a running watch timer in ENFORCE and in HOLD (R42, R43). A tip position at the guard ends the SAMPLE_STALE
cause in every state, restarts the watch in HOLD and ENFORCE, and completes the warm-up at the fourth in a row in HOLD (R40,
R41, R43). -/
def Obligations.SampleWatchAndWarmUp : Prop :=
  (∀ (s : State) (d : Nat), s.guard.watch = some d →
     (s.guard.state = .enforce →
       exec .watchExpiry s
         = .next ((({ s with guard := { s.guard with watch := none, stale := true } }).latch .sampleStale).enterGuard .hold
             true).driveAttn)
     ∧ (s.guard.state = .hold →
         exec .watchExpiry s
           = .next (({ s with guard := { s.guard with watch := none, stale := true, warmUp := 0 } }).latch
               .sampleStale).driveAttn))
  ∧ (∀ s : State,
       let d := s.banks.active.setting .staleTimeout
       (s.guard.state = .hold → s.guard.warmUp + 1 < 4 →
         s.guardTake
           = { s with guard := { s.guard with stale := false, watch := some d, warmUp := s.guard.warmUp + 1 } })
       ∧ (s.guard.state = .hold → s.guard.warmUp + 1 = 4 →
           s.guardTake
             = ({ s with guard := { s.guard with stale := false, watch := some d, warmUp := 4 } }).enterGuard .enforce
                 false)
       ∧ (s.guard.state = .enforce →
           s.guardTake = { s with guard := { s.guard with stale := false, watch := some d } })
       ∧ (s.guard.state ≠ .hold → s.guard.state ≠ .enforce →
           s.guardTake = { s with guard := { s.guard with stale := false } }))

/-- What becomes of a DEMAND frame: discarded during an image read and while DARK, rejected at a wrong length or address,
discarded in BLOCKED and PARK, filtered otherwise. A frame filtered in SERVICE and ENFORCE writes the limit flags, and a zone
stop latches; a filtered frame that joins the crane-bound queue writes the quiet flag, true exactly when every motion slot's
demand in it is 0, and one that leaves it true attempts a pending commit; it keeps its header and carries the filtered demands
(R52, R54, R57, R60, R61, R62, R105, R107, R110, R114, R144, R167). That a frame to the own address is handed where that is the
valve block address is the model's choice (log 27). -/
def Obligations.DemandFramesDisposed : Prop :=
  (∀ (s : State) (p : Packet), p.body.length ≤ 28 →
    let out := s.filterDemands (demandsOf p.body)
    let w := if s.guard.state = .hold then s else { s with guard := { s.guard with limitFlags := out.map (·.flag) } }
    let u := if out.any (·.zoneStop) = true then w.latch .zoneStop else w
    let still := s.allStill out
    let joined := { u with
      line := { u.line with craneQueue := u.line.craneQueue ++ [filteredFrame (frameOf classDemand p) out] }
      guard := { u.guard with quiet := still } }
    exec (.demand p) s
      = .next
        (if s.store.reading = true ∨ s.router.link = .dark then s
        else if p.body.length ≠ 16
            ∨ (s.banks.activeValid = true ∧ p.dest.toNat ≠ s.banks.active.setting .valveAddress)
            ∨ (s.banks.activeValid = false ∧ (p.dest = 0 ∨ p.dest = 31 ∨ p.dest = s.router.nodeAddress)) then
          s.latch .valveReject
        else if s.guard.state = .blocked ∨ s.guard.state = .park then s
        else if s.line.craneQueue.length < 4 then (if still = true then joined.attemptSwap else joined)
        else u.latch .fwdDrop).driveAttn)
  ∧ (∀ (s : State) (out : List Filtered),
      s.allStill out = true ↔
        ∀ k x, out[k]? = some x →
          s.banks.active.slotKind k ∈ motionKinds ∨ (s.guard.state = .service ∧ s.banks.activeValid = false) → x.value = 0)
  ∧ (∀ payload : Bytes, (demandsOf payload).length = 8
      ∧ ∀ k, k < 8 →
          (demandsOf payload)[k]?
            = some (if u16At payload (2 * k) < 32768 then (u16At payload (2 * k) : Int) else (u16At payload (2 * k) : Int) - 65536))
  ∧ ∀ (f : Frame) (out : List Filtered),
      (filteredFrame f out).cls = f.cls ∧ (filteredFrame f out).dest = f.dest ∧ (filteredFrame f out).src = f.src
        ∧ (filteredFrame f out).spare = f.spare
        ∧ (filteredFrame f out).payload.length = 2 * out.length
        ∧ (out.length = 8 → (∀ x, x ∈ out → x.value.natAbs ≤ 1000) →
            demandsOf (filteredFrame f out).payload = out.map (·.value))

/-- The filtering of the demands in each guard state that filters: all 0 in HOLD, where the flags are not written; clamped and,
in a motion slot, limited to the service cap in SERVICE, where every slot is a motion slot while the active-valid flag is clear;
judged slot by slot in ENFORCE (R52, R53, R54, R55). The bounds of a filtered frame: every demand within −1000..+1000, all 0 in
HOLD, motion demands at most the service cap in SERVICE, and in ENFORCE at most the violation cap or the smaller of the two class
caps (R60). -/
def Obligations.FilteredDemandsInEachState : Prop :=
  (∀ (s : State) (demands : List Int),
    (s.filterDemands demands).length = demands.length
    ∧ ∀ (k : Nat) (d : Int), demands[k]? = some d →
        let filtered := (s.filterDemands demands)[k]?
        let motion := s.banks.active.slotKind k ∈ motionKinds
        let c := max (-1000) (min 1000 d)
        let cap : Int := s.banks.active.setting .serviceCap
        let v := if motion ∨ s.banks.activeValid = false then (if c < 0 then -(min (-c) cap) else min c cap) else c
        (s.guard.state = .hold → filtered = some ⟨0, .passed, false⟩)
        ∧ (s.guard.state = .service →
            filtered = some ⟨v, if v.natAbs < d.natAbs then .capped else .passed, false⟩
              ∧ v.natAbs ≤ 1000 ∧ (motion ∨ s.banks.activeValid = false → v.natAbs ≤ s.banks.active.setting .serviceCap))
        ∧ (s.guard.state = .enforce →
            ∃ x, filtered = some x ∧ x = enforceDemand s.banks.active s.capacity.overload s.tip k d
              ∧ x.value.natAbs ≤ 1000
              ∧ ∀ t, s.tip = some t → motion →
                  (t.zone.rule = .noEntry ∨ t.band = .beyond → x.value.natAbs ≤ s.banks.active.setting .violationCap)
                  ∧ (¬(t.zone.rule = .noEntry ∨ t.band = .beyond) → x.value ≠ 0 →
                      x.value.natAbs ≤ t.zone.cap
                        ∧ x.value.natAbs ≤ (lookAhead s.banks.active t k c).zone.cap)))
  ∧ motionKinds = [.slew, .boom, .jib, .ext]

/-- A look-ahead point moves one joint by its look step, keeps the tilt band and the net mass of the tip, and resolves
against the active bank (R20, R34, R55). A demand filtered in ENFORCE is settled by the first case that applies: not a motion
demand or 0, violation, zone stop, load stop, cap (R55 to R59). -/
def Obligations.EnforcedDemandsSettledInOrder : Prop :=
  (∀ (b : TableSet) (t : TipPosition) (slot : Nat) (d : Int),
     let step := b.slotPolarity slot * d.sign * (b.slotLookStep slot : Int)
     let at_ (slew : Nat) (a1 a2 ext : Int) : Prop :=
       let point := lookAhead b t slot d
       point.reach = reachOf (b.setting .l1) (b.setting .l2) a1 a2 ext
         ∧ point.ring = ringOf point.reach ∧ point.sector = slew / 300
         ∧ point.zone = zoneOf b point.ring point.sector ∧ point.band = t.band
         ∧ point.fallSector = t.fallAzimuth.map (fun az => (slew + 3600 - az) % 3600 / 300)
         ∧ point.capacity = effectiveCapacity b point.reach point.ring point.band point.zone.derate point.fallSector
         ∧ point.utilization = point.capacity.map (fun c => utilizationOf c t.net)
     (b.slotKind slot = .slew → at_ (((t.slew : Int) + step) % 3600).toNat t.a1 t.a2 t.ext)
       ∧ (b.slotKind slot = .boom → at_ t.slew (t.a1 + step) t.a2 t.ext)
       ∧ (b.slotKind slot = .jib → at_ t.slew t.a1 (t.a2 + step) t.ext)
       ∧ (b.slotKind slot = .ext → at_ t.slew t.a1 t.a2 (t.ext + step)))
  ∧ (∀ (b : TableSet) (load : OverloadState) (t : TipPosition) (slot : Nat) (received : Int),
       let d := max (-1000) (min 1000 received)
       let limited (cap : Nat) : Filtered :=
         let v : Int := if d < 0 then -(min (-d) (cap : Int)) else min d (cap : Int)
         ⟨v, if v.natAbs < received.natAbs then .capped else .passed, false⟩
       let point := lookAhead b t slot d
       let exceeded : Bool := match point.utilization, t.utilization with
         | some a, some c => decide (c < a)
         | _, _ => false
       enforceDemand b load (some t) slot received
         = if b.slotKind slot ∉ motionKinds ∨ d = 0 then ⟨d, if d.natAbs < received.natAbs then .capped else .passed, false⟩
           else if t.zone.rule = .noEntry ∨ t.band = .beyond then
             (if (t.ring = .beyond ∨ t.band = .beyond) ∧ t.reach < point.reach then ⟨0, .zeroedZone, false⟩
             else limited (b.setting .violationCap))
           else if point.zone.rule = .noEntry then ⟨0, .zeroedZone, true⟩
           else if load = .overload ∧ exceeded = true then
             ⟨0, .zeroedLoad, false⟩
           else limited (min t.zone.cap point.zone.cap))

/-! ### The sample stream, the Geometry Unit and the Capacity Monitor -/

/-- SYNC: handed while LINKED with a payload of 1 byte and the guard not in PARK, it reports an open set lost and opens a
new one; it is forwarded in every case while LINKED (R82, R105, R107, R109, R125, R128). -/
def Obligations.SyncOpensSampleSet : Prop :=
  ∀ (s : State) (p : Packet), p.body.length ≤ 28 →
    let f := frameOf classSync p
    let lost := { s with
      guard := { s.guard with warmUp := if s.guard.state = .hold then 0 else s.guard.warmUp }
      lift := { s.lift with window := [], search := s.lift.search.map (fun t => { t with window := [] }) } }
    let u := if s.openSet.isSome = true then lost else s
    exec (.sync p) s
      = .next
        (if s.store.reading = true ∨ s.router.link = .dark then s
        else if p.body.length = 1 ∧ s.guard.state ≠ .park then
          ({ u with openSet := some ⟨p.body.headD 0, List.replicate 8 none⟩ }).forwardCrane f
        else s.forwardCrane f).driveAttn

/-- SAMPLE: forwarded while LINKED; a frame of a right length and the open set's sequence fills slots, and the eighth filled
slot makes the set complete; every other frame is ignored by the Sample Assembler (R107, R112, R126, R127). Its pairs stand as
channel and signed raw value after the sequence (R167), they are taken in order until the eighth slot is filled, and a complete
set holds the eight values (R126, R127). -/
def Obligations.SampleFillsOpenSet : Prop :=
  (∀ (s : State) (p : Packet), p.body.length ≤ 28 →
    let f := frameOf classSample p
    (s.router.link = .dark → exec (.sample p) s = .next s.driveAttn)
      ∧ (s.router.link = .linked →
          (((¬∃ n, 1 ≤ n ∧ n ≤ 6 ∧ p.body.length = 1 + 3 * n) ∨ s.openSet = none
              ∨ ∃ o, s.openSet = some o ∧ p.body.headD 0 ≠ o.sequence) →
            exec (.sample p) s = .next (s.forwardCab f).driveAttn)
          ∧ ∀ (n : Nat) (o : OpenSet), 1 ≤ n → n ≤ 6 → p.body.length = 1 + 3 * n → s.openSet = some o →
              p.body.headD 0 = o.sequence →
              let slots := takePairs s.banks.active p.src.toNat (pairsOf n p.body) o.slots
              (slots.all Option.isSome = false →
                exec (.sample p) s
                  = .next (({ s with openSet := some { o with slots := slots } }).forwardCab f).driveAttn)
              ∧ (slots.all Option.isSome = true →
                  exec (.sample p) s
                    = .next ((({ s with openSet := none }).deliver (completeSet slots)).forwardCab f).driveAttn)))
  ∧ (∀ (n : Nat) (payload : Bytes),
      (pairsOf n payload).length = n
      ∧ ∀ k, k < n →
          let raw := u16At payload (2 + 3 * k)
          (pairsOf n payload)[k]?
            = some (u8At payload (1 + 3 * k), if raw < 32768 then (raw : Int) else (raw : Int) - 65536))
  ∧ (∀ (b : TableSet) (src : Nat) (pair : Nat × Int) (rest : List (Nat × Int)) (slots : List (Option Int)),
      takePairs b src [] slots = slots
      ∧ takePairs b src (pair :: rest) slots
          = if slots.all Option.isSome = true then slots else takePairs b src rest (takePair b src slots pair))
  ∧ ∀ slew a1 a2 ext force grip pitch roll : Int,
      completeSet [some slew, some a1, some a2, some ext, some force, some grip, some pitch, some roll]
        = ⟨slew, a1, a2, ext, force, grip, pitch, roll⟩

/-- One pair: matched by source and channel to an assigned entry, calibrated, checked against its range, and kept by an
empty slot (R121, R122, R123, R126). In a validated map at most one entry matches; that the first of several takes the pair is
the model's choice (log 18). -/
def Obligations.PairsCalibratedIntoSlots : Prop :=
  ∀ (b : TableSet) (src ch : Nat) (raw : Int) (slots : List (Option Int)),
    ((∀ q, q < 8 → ¬(b.channelSource q ≠ 0 ∧ b.channelSource q = src ∧ b.channelNumber q = ch ∧ ch < 16)) →
      takePair b src slots (ch, raw) = slots)
    ∧ ∀ q, q < 8 → b.channelSource q ≠ 0 → b.channelSource q = src → b.channelNumber q = ch → ch < 16 →
        (∀ j, j < q → ¬(b.channelSource j = src ∧ b.channelNumber j = ch)) →
        let v := ((raw - b.channelZero q) * (b.channelGain q : Int)).tdiv 1024
        let w := if q = 0 then v % 3600 else v
        let range : Int × Int :=
          ([(0, 3599), (-300, 850), (-1750, 0), (0, 4000), (-2000, 20000), (0, 3000), (-600, 600), (-600, 600)]).getD q
            (0, 0)
        takePair b src slots (ch, raw)
          = if (slots.getD q none).isSome = true ∨ w < range.1 ∨ range.2 < w then slots else slots.set q (some w)

/-- A complete set makes a tip position: the record of the geometry, the masses, the zone fields, the effective capacity and
the utilization becomes the latest one, and reaches the Capacity Monitor's filter, the Envelope Guard and the Lift Unit in
this order (R2, R3, R5, R11, R17, R27). -/
def Obligations.CompleteSetMakesTipPosition : Prop :=
  ∀ (s : State) (x : SampleSet),
    let b := s.banks.active
    let sum := (b.setting .l1 : Int) * cosFactor x.a1 + ((b.setting .l2 : Int) + x.ext) * cosFactor (x.a1 + x.a2)
    let reach := if sum ≤ 0 then 0 else (sum / 32768).toNat
    let slew := x.slew.toNat
    let tilt := tiltOf x.pitch x.roll
    let azimuth := fallAzimuthOf tilt x.pitch x.roll
    let fallSector := azimuth.map (fun az => (slew + 3600 - az) % 3600 / 300)
    let net := (x.force - (s.lift.tare : Int)).toNat
    let zone := zoneOf b (ringOf reach) (slew / 300)
    let ceff := effectiveCapacity b reach (ringOf reach) (bandOf tilt) zone.derate fallSector
    let u := ceff.map (fun c => utilizationOf c net)
    let t : TipPosition :=
      ⟨slew, x.a1, x.a2, x.ext, reach, ringOf reach, slew / 300, zone, tilt, bandOf tilt, azimuth, fallSector, x.force, net,
        x.grip, ceff, u⟩
    let v := { s with capacity := overloadFilter b u s.capacity, tip := some t }
    s.deliver x
      = (((((v.judge .outOfMap (v.cause .outOfMap)).judge .zoneViolation (v.cause .zoneViolation)).judge .overload
          (v.cause .overload)).judge .nearCapacity (v.cause .nearCapacity)).guardTake).liftTake t

/-- Ring, sector and band of a reach, a slew and a tilt (R6, R7, R9), and the tilt of a calibrated pitch and roll: the integer
nearest to the root of the sum of their squares (R8). -/
def Obligations.RingSectorTiltAndBand : Prop :=
  ((∀ reach : Nat,
     (reach < 10000 → ringOf reach = .within (reach / 2000) ∧ reach / 2000 ≤ 4)
       ∧ (10000 ≤ reach → ringOf reach = .beyond))
   ∧ (∀ slew : Nat, slew ≤ 3599 → sectorOf slew = slew / 300 ∧ sectorOf slew ≤ 11)
   ∧ ∀ tilt : Nat,
       (tilt < 420 → bandOf tilt = .within (tilt / 70) ∧ tilt / 70 ≤ 5) ∧ (420 ≤ tilt → bandOf tilt = .beyond))
  ∧ (∀ p r : Int, -600 ≤ p → p ≤ 600 → -600 ≤ r → r ≤ 600 →
       let t : Int := tiltOf p r
       (p = 0 ∧ r = 0 → t = 0)
         ∧ (¬(p = 0 ∧ r = 0) → 0 < t ∧ t * t - t + 1 ≤ p * p + r * r ∧ p * p + r * r ≤ t * t + t ∧ t ≤ 849))

/-- The cosine factor of an angle θ in 0.1° is the integer nearest to 32768 × cos θ, is even in θ and repeats every 3600; no
exact value stands halfway between two integers (R4). -/
def Obligations.CosineFactorIsNearest : Prop :=
  ∀ θ : Int,
    cosFactor (-θ) = cosFactor θ ∧ cosFactor (θ + 3600) = cosFactor θ
      ∧ |32768 * Real.cos ((θ : ℝ) * Real.pi / 1800) - (cosFactor θ : ℝ)| < 1 / 2

/-- The fall azimuth is absent below a tilt of 20. From there on it is the direction of the vector with forward component −p and
leftward component −r, rounded to the nearest 0.1° and reduced into 0..3599; no exact direction stands halfway. The fall sector
is the slew less the fall azimuth, mod 3600, div 300, and is absent with it (R10). -/
def Obligations.FallAzimuthPointsDownhill : Prop :=
  (∀ (tilt : Nat) (p r : Int), tilt < 20 → fallAzimuthOf tilt p r = none)
  ∧ (∀ (tilt : Nat) (p r : Int), 20 ≤ tilt → -600 ≤ p → p ≤ 600 → -600 ≤ r → r ≤ 600 → ¬(p = 0 ∧ r = 0) →
      ∃ az, fallAzimuthOf tilt p r = some az ∧ az ≤ 3599
        ∧ ∃ ρ x : ℝ, 0 < ρ ∧ -(p : ℝ) = ρ * Real.cos (x * Real.pi / 1800) ∧ -(r : ℝ) = ρ * Real.sin (x * Real.pi / 1800)
            ∧ |x - (az : ℝ)| < 1 / 2)
  ∧ (∀ slew az : Nat, slew ≤ 3599 → az ≤ 3599 →
      (fallSectorOf slew az : Int) = ((slew : Int) - (az : Int)) % 3600 / 300 ∧ fallSectorOf slew az ≤ 11)
  ∧ ∀ (b : TableSet) (tare : Nat) (x : SampleSet),
      let t := geometryRecord b tare x
      t.fallAzimuth = fallAzimuthOf t.tilt x.pitch x.roll ∧ t.fallSector = t.fallAzimuth.map (fallSectorOf t.slew)

/-- The walk of a ring's row: the class of a cell is the one of the last CLASS entry at or before its entry, or the starting
class of the header; and the zone fields of open, closed and missing rings (R13 to R16). -/
def Obligations.ZoneWalkCarriesLastClass : Prop :=
  ∀ (b : TableSet) (ring sector : Nat) (isOpen : Bool) (start : Nat), b.zone ring 0 = some (.header isOpen start) →
    ((∀ e, 1 ≤ e → e ≤ sector + 1 → ∀ k, b.zone ring e ≠ some (.cls k)) → walkClass b ring sector = start)
    ∧ (∀ e k, 1 ≤ e → e ≤ sector + 1 → b.zone ring e = some (.cls k) →
        (∀ e', e < e' → e' ≤ sector + 1 → ∀ k', b.zone ring e' ≠ some (.cls k')) → walkClass b ring sector = k)
    ∧ (let k := walkClass b ring sector
      zoneOf b (.within ring) sector
        = if isOpen = true then
            ⟨some k, b.classRule k, if b.classRule k = .openEntry then b.classCap k else 0, b.classBunk k,
              some (b.classDerate k)⟩
          else ⟨some k, .noEntry, 0, false, some (b.classDerate k)⟩)
    ∧ zoneOf b .beyond sector = ⟨none, .noEntry, 0, false, none⟩

/-- The capacity at a reach lies on the curve, rounded up by less than 1 kg (R23); the effective capacity and the utilization
(R24, R25, R26). -/
def Obligations.CapacityAndUtilization : Prop :=
  (∀ (b : TableSet) (reach : Nat), reach < 9375 → b.capacityPoint (reach / 625 + 1) ≤ b.capacityPoint (reach / 625) →
    let p : Int := b.capacityPoint (reach / 625)
    let q : Int := b.capacityPoint (reach / 625 + 1)
    let d : Int := (reach : Int) - 625 * ((reach / 625 : Nat) : Int)
    let c : Int := capacityAt b reach
    c = p + ((q - p) * d).tdiv 625 ∧ q ≤ c ∧ c ≤ p ∧ p * 625 + (q - p) * d ≤ c * 625
      ∧ c * 625 < p * 625 + (q - p) * d + 625)
  ∧ (∀ (b : TableSet) (reach : Nat), 9375 ≤ reach → capacityAt b reach = b.capacityPoint 15)
  ∧ (∀ (b : TableSet) (reach ring band derate f : Nat),
      effectiveCapacity b reach (.within ring) (.within band) (some derate) (some f)
        = some (capacityAt b reach * derate * b.stability band f / 10000))
  ∧ (∀ (b : TableSet) (reach ring band derate : Nat),
      ∃ m, effectiveCapacity b reach (.within ring) (.within band) (some derate) none
          = some (capacityAt b reach * derate * m / 10000)
        ∧ (∃ f, f < 12 ∧ m = b.stability 0 f) ∧ ∀ f, f < 12 → m ≤ b.stability 0 f)
  ∧ (∀ (b : TableSet) (reach : Nat) (ring band : Place) (derate f : Option Nat),
      ring = .beyond ∨ band = .beyond → effectiveCapacity b reach ring band derate f = none)
  ∧ ∀ ceff net : Nat,
      utilizationOf ceff net ≤ 2000
        ∧ (1 ≤ ceff → utilizationOf ceff net = min (net * 1000 / ceff) 2000)
        ∧ utilizationOf 0 0 = 0 ∧ (1 ≤ net → utilizationOf 0 net = 2000)

/-- The overload filter in NORMAL and in OVERLOAD; the count of the other state stays 0; a record without utilization leaves
it as it was (R28, R29, R30). -/
def Obligations.OverloadFilterCounts : Prop :=
  ∀ (b : TableSet) (u : Nat) (m : CapacityMonitor),
    (m.overload = .normal →
      overloadFilter b (some u) m
        = if 1000 < u then
            (if b.setting .overloadFilter ≤ min (m.overloadCount + 1) 50 then ⟨.overload, 0, 0⟩
            else { m with overloadCount := min (m.overloadCount + 1) 50 })
          else { m with overloadCount := 0 })
    ∧ (m.overload = .overload →
        overloadFilter b (some u) m
          = if (u : Int) ≤ 1000 - (b.setting .hysteresis : Int) then
              (if b.setting .releaseFilter ≤ min (m.releaseCount + 1) 50 then ⟨.normal, 0, 0⟩
              else { m with releaseCount := min (m.releaseCount + 1) 50 })
            else { m with releaseCount := 0 })
    ∧ overloadFilter b none m = m
    ∧ ((m.overload = .normal → m.releaseCount = 0) ∧ (m.overload = .overload → m.overloadCount = 0) →
        ((overloadFilter b (some u) m).overload = .normal → (overloadFilter b (some u) m).releaseCount = 0)
        ∧ ((overloadFilter b (some u) m).overload = .overload → (overloadFilter b (some u) m).overloadCount = 0))

/-! ### The Lift Unit and the Tally Unit -/

/-- The grapple state a tip position leaves, the events it carries, and that it is held in HOLD with a lift in progress (R66,
R67). A lift in ENFORCE from the grip to the ground cleared: the context made at the grip, the clear count, ALOFT with the
pick time (R68, R70, R74). The Lift Unit's work on a tip position stands in the order grapple, lift in ENFORCE, tare, and a
grip event fails a tare search (R65, R85). -/
def Obligations.GrippedLoadIsPickedUp : Prop :=
  (∀ (s : State) (t : TipPosition),
     let on : Int := s.banks.active.setting .gripOn
     let off : Int := s.banks.active.setting .gripOff
     (s.guard.state = .hold → s.lift.state ≠ .empty → s.grappleNext t = s.lift.grapple)
       ∧ (s.guard.state ≠ .hold ∨ s.lift.state = .empty →
           (on ≤ t.grip → s.grappleNext t = .closed)
           ∧ (t.grip < on → t.grip < off → s.grappleNext t = .opened)
           ∧ (t.grip < on → off ≤ t.grip → s.grappleNext t = s.lift.grapple))
       ∧ (grappleEvent s.lift.grapple (s.grappleNext t) = .grip ↔
           s.lift.grapple = .opened ∧ s.grappleNext t = .closed)
       ∧ (grappleEvent s.lift.grapple (s.grappleNext t) = .release ↔
           s.lift.grapple = .closed ∧ s.grappleNext t = .opened))
  ∧ (∀ (s : State) (t : TipPosition),
       (s.lift.state = .empty →
         s.liftStep .grip t
           = { s with
               lift := { s.lift with
                 state := .gripped
                 context := some
                   ⟨s.tally.selected, match t.ring with | .within r => .at_ r t.sector | .beyond => .beyond, t.zone.bunk, t.band,
                     s.capacity.overload == OverloadState.overload, false, none, none⟩
                 clearCount := 0
                 window := []
                 timer := 0
                 timerRunning := true } }
           ∧ s.liftStep .release t = s ∧ s.liftStep .steady t = s)
       ∧ (∀ c, s.lift.state = .gripped → s.lift.context = some c →
           let c' := { c with overloadSeen := c.overloadSeen || s.capacity.overload == OverloadState.overload }
           s.liftStep .steady t
             = if s.banks.active.setting .clearThreshold ≤ t.net then
                 (if s.lift.clearCount + 1 = s.banks.active.setting .clearFilter then
                   { s with
                     lift := { s.lift with
                       state := .aloft
                       context := some { c' with pickTime := some s.lift.timer }
                       clearCount := 0
                       window := [] } }
                 else { s with lift := { s.lift with context := some c', clearCount := s.lift.clearCount + 1 } })
               else { s with lift := { s.lift with context := some c', clearCount := 0 } }))
  ∧ (∀ (s : State) (t : TipPosition),
       let e := grappleEvent s.lift.grapple (s.grappleNext t)
       let v := { s with lift := { s.lift with grapple := s.grappleNext t } }
       let w := if e = .grip then v.failSearch else v
       s.liftTake t = (if w.guard.state = .enforce then w.liftStep e t else w).tareStep t)

/-- Weighing in ALOFT and WEIGHED: the window slides, a full stable one gives the first weight or replaces it only with a
strictly smaller spread, and is emptied (R71, R72, R73, R74). -/
def Obligations.TightestStableWindowWeighs : Prop :=
  ∀ (s : State) (t : TipPosition) (c : LiftContext),
    (s.lift.state = .aloft ∧ c.weighing = none) ∨ (s.lift.state = .weighed ∧ c.weighing.isSome = true) →
    s.lift.context = some c →
    let b := s.banks.active
    let c' := { c with overloadSeen := c.overloadSeen || s.capacity.overload == OverloadState.overload }
    let window := if s.lift.window.length < b.setting .weighWindow then s.lift.window ++ [t.net]
      else s.lift.window.drop 1 ++ [t.net]
    let mean := window.sum / window.length
    (∃ lo hi, lo ∈ window ∧ hi ∈ window ∧ (∀ m, m ∈ window → lo ≤ m ∧ m ≤ hi)
      ∧ s.liftStep .steady t
        = if window.length = b.setting .weighWindow ∧ hi - lo ≤ b.setting .tolerance
              ∧ b.setting .clearThreshold ≤ mean then
            { s with
              lift := { s.lift with
                state := .weighed
                context := some (if c.weighing.all (fun held => hi - lo < held.spread) = true then
                  { c' with weighing := some ⟨mean, hi - lo, t.reach⟩ } else c')
                window := [] } }
          else { s with lift := { s.lift with context := some c', window := window } })

/-- The ends of a lift: a release classified by the two bunk flags, recorded and followed by the attempt of a pending commit;
a release in GRIPPED without a record; the abandonment by a change of guard state, which has no effect in EMPTY (R76, R77, R78,
R79, R80). -/
def Obligations.LiftEndsWithItsRecord : Prop :=
  (∀ (s : State) (t : TipPosition) (c : LiftContext), s.lift.context = some c →
    let ended := { s.lift with state := .empty, context := none, timerRunning := false, window := [], clearCount := 0 }
    let record (kind : LiftKind) (release : Option Cell) (seen : Bool) : LiftRecord :=
      ⟨0, kind, c.assortment, c.weighing, c.gripCell, release, c.band, c.pickTime.getD 0, s.lift.timer, seen, c.holdSeen⟩
    let cell : Cell := match t.ring with | .within r => .at_ r t.sector | .beyond => .beyond
    let kind : LiftKind :=
      if c.gripBunk = false ∧ t.zone.bunk = true then .loaded
      else if c.gripBunk = true ∧ t.zone.bunk = false then .unloaded
      else if c.gripBunk = true ∧ t.zone.bunk = true then .reshuffled
      else .returned
    (s.lift.state = .gripped →
      s.liftStep .release t = ({ s with lift := ended }).attemptSwap
        ∧ s.abandonLift = { s with lift := ended })
    ∧ (s.lift.state = .aloft ∨ s.lift.state = .weighed →
        s.liftStep .release t
            = (({ s with lift := ended }).bookRecord
                (record kind (some cell) (c.overloadSeen || s.capacity.overload == OverloadState.overload))).attemptSwap
          ∧ s.abandonLift
            = (({ s with lift := ended }).bookRecord (record .abandoned none c.overloadSeen)).latch .liftAbandoned))
  ∧ ∀ s : State, s.lift.state = .empty → s.abandonLift = s

/-- The Tally Unit takes a record: sequence, booking with its limits and the underrun, the bunk conditions, the queue of 24
(R88 to R92, R98, R99). -/
def Obligations.RecordBookedAndQueued : Prop :=
  ∀ (s : State) (r : LiftRecord), r.assortment < s.tally.tallies.length →
    let old := s.tally.tallies.getD r.assortment ⟨0, 0, 0, 0⟩
    let up (n : Nat) : Nat := min (n + 1) 65535
    let new : Tally := match r.kind, r.weighing with
      | .loaded, some w => { old with mass := min (old.mass + w.weight) 999999, loaded := up old.loaded }
      | .loaded, none => { old with loaded := up old.loaded, unweighed := up old.unweighed }
      | .unloaded, some w => { old with mass := old.mass - w.weight, unloaded := up old.unloaded }
      | .unloaded, none => { old with unloaded := up old.unloaded, unweighed := up old.unweighed }
      | _, _ => old
    let booked := { s with
      tally := { s.tally with
        tallies := s.tally.tallies.set r.assortment new
        sequence := s.tally.sequence + 1 } }
    let under : Bool := match r.kind, r.weighing with
      | .unloaded, some w => decide (old.mass < w.weight)
      | _, _ => false
    let u := if under = true then booked.latch .tallyUnderrun else booked
    let v := (u.judge .bunkNear (u.cause .bunkNear)).judge .bunkFull (u.cause .bunkFull)
    s.bookRecord r
      = if s.tally.records.length < 24 then
          { v with tally := { v.tally with records := v.tally.records ++ [{ r with sequence := s.tally.sequence }] } }
        else v.latch .queueOverflow

/-- TARE: the refusals in their order, then a search with an empty window and a count of 0 (R83). A tip position in a tare
search: the window, the judgement of a full steady one by its mean, the limit of 64 positions (R84, R85). A search that fails
latches TARE_FAILED and is NONE; without a search nothing fails, and a tip position is not taken for one (R65, R85). -/
def Obligations.TareSearchRuns : Prop :=
  (∀ (s : State) (p : Packet), s.Takes p → p.body = [] →
     exec (.tare p) s
       = .next
         (if s.lift.search.isSome = true then s.closeWindow.replied .tare p (.refused .busy)
         else if s.guard.state = .hold ∨ s.guard.state = .service ∨ s.guard.state = .park then
           s.closeWindow.replied .tare p (.refused .wrongState)
         else if s.lift.state ≠ .empty ∨ s.lift.grapple = .closed then
           s.closeWindow.replied .tare p (.refused .notEmpty)
         else ({ s.closeWindow with lift := { s.lift with search := some ⟨[], 0⟩ } }).replied .tare p .accepted))
  ∧ (∀ (s : State) (t : TipPosition) (search : TareSearch), s.lift.search = some search →
       let w := s.banks.active.setting .weighWindow
       let window := if search.window.length < w then search.window ++ [t.gross] else search.window.drop 1 ++ [t.gross]
       let mean := window.sum.tdiv window.length
       let failed := ({ s with lift := { s.lift with search := none } }).latch .tareFailed
       ∃ lo hi, lo ∈ window ∧ hi ∈ window ∧ (∀ m, m ∈ window → lo ≤ m ∧ m ≤ hi)
         ∧ s.tareStep t
           = if window.length = w ∧ hi - lo ≤ (s.banks.active.setting .tolerance : Int) then
               (if 0 ≤ mean ∧ mean ≤ 2000 then
                 ({ s with lift := { s.lift with tare := mean.toNat, search := none } }).latch .tareDone
               else failed)
             else if 64 ≤ search.count + 1 then failed
             else { s with lift := { s.lift with search := some ⟨window, search.count + 1⟩ } })
  ∧ (∀ s : State,
       (s.lift.search = none → s.failSearch = s ∧ ∀ t, s.tareStep t = s)
       ∧ ∀ search, s.lift.search = some search →
           s.failSearch = ({ s with lift := { s.lift with search := none } }).latch .tareFailed)

/-- SELECT_ASSORTMENT by the active Assortments table (R93). FETCH_LIFT removes and returns the oldest record (R100);
READ_TALLY answers a tally or the totals and changes nothing (R97); CLEAR_TALLY zeroes the tallies and the work timer, after
which no bunk cause is present (R96). LIFT_TIMER_TICK and WORK_TIMER_TICK advance a running timer by one up to its limit and
leave a stopped one (R81, R95). -/
def Obligations.TallyCommandsAndTimers : Prop :=
  (∀ (s : State) (p : Packet) (a : Byte), s.Takes p → p.body = [a] →
     exec (.selectAssortment p) s
       = .next
         (if a.toNat < 12 ∧ s.banks.active.assortmentEnabled a.toNat = true then
           ({ s.closeWindow with tally := { s.tally with selected := a.toNat } }).replied .selectAssortment p .done
         else s.closeWindow.replied .selectAssortment p (.refused .badArgument)))
  ∧ (∀ (s : State) (p : Packet), s.Takes p →
       (p.body = [] →
         (s.tally.records = [] → exec (.fetchLift p) s = .next (s.closeWindow.replied .fetchLift p (.refused .empty)))
         ∧ (∀ r rest, s.tally.records = r :: rest →
             exec (.fetchLift p) s
               = .next (({ s.closeWindow with tally := { s.tally with records := rest } }).replied .fetchLift p .done
                   (liftRecordBytes r)))
         ∧ (0 < s.banks.active.setting .bunkLimit → 0 < s.banks.active.setting .bunkNear →
             exec (.clearTally p) s
               = .next (({ s.closeWindow with
                   tally := { s.tally with tallies := List.replicate 12 ⟨0, 0, 0, 0⟩, workTimer := 0 } }).replied
                   .clearTally p .done)))
       ∧ ∀ i : Byte, p.body = [i] →
           exec (.readTally p) s
             = .next
               (if i.toNat < 12 then
                 s.closeWindow.replied .readTally p .done
                   (tallyBytes s.banks.active i.toNat (s.tally.tallies.getD i.toNat ⟨0, 0, 0, 0⟩))
               else if i.toNat = 12 then s.closeWindow.replied .readTally p .done (totalsBytes s.tally)
               else s.closeWindow.replied .readTally p (.refused .badArgument)))
  ∧ ∀ s : State,
    exec .liftTimerTick s
        = .next (if s.lift.timerRunning = true then
            { s with lift := { s.lift with timer := min (s.lift.timer + 1) 1048575 } } else s).driveAttn
      ∧ exec .workTimerTick s
        = .next (if s.guard.state = .enforce ∧ s.guard.quiet = false then
            { s with tally := { s.tally with workTimer := min (s.tally.workTimer + 1) 4294967295 } } else s).driveAttn

/-! ### The Table Banks and the Image Store -/

/-- TABLE_WRITE: its tests in their order; the window it opens stands at the first entry of its rectangle (R137). The walk of
a window visits its rectangle row by row or column by column and then starts again (R138). -/
def Obligations.TableWriteOpensWindow : Prop :=
  ((∀ (s : State) (p : Packet), s.Takes p → p.body.length ≤ 27 →
     exec (.tableWrite p) s
       = .next
         (if p.body.length ≠ 6 then s.closeWindow.replied .tableWrite p (.refused .badArgument)
         else if s.store.state = .reloading then s.closeWindow.replied .tableWrite p (.refused .busy)
         else if s.banks.commit = .pending then s.closeWindow.replied .tableWrite p (.refused .stagingLocked)
         else match windowOf p.body with
           | some w => ({ s.closeWindow with unit := { s.unit with window := some w } }).replied .tableWrite p .done
           | none => s.closeWindow.replied .tableWrite p (.refused .badArgument)))
   ∧ ∀ (args : Bytes) (w : Window),
       windowOf args = some w ↔
         u8At args 0 = w.table.number ∧ u8At args 1 = w.firstRow ∧ u8At args 2 = w.lastRow ∧ u8At args 3 = w.firstCol
           ∧ u8At args 4 = w.lastCol ∧ u8At args 5 = (match w.order with | .rowFirst => 0 | .columnFirst => 1)
           ∧ w.firstRow ≤ w.lastRow ∧ w.lastRow < w.table.rows ∧ w.firstCol ≤ w.lastCol ∧ w.lastCol < w.table.cols
           ∧ (w.order = .columnFirst → w.table = .zoneMap ∨ w.table = .stabilityGrid)
           ∧ w.row = w.firstRow ∧ w.col = w.firstCol)
  ∧ (∀ (w : Window) (n : Nat), w.row = w.firstRow → w.col = w.firstCol → w.firstRow ≤ w.lastRow → w.firstCol ≤ w.lastCol →
       let height := w.lastRow - w.firstRow + 1
       let width := w.lastCol - w.firstCol + 1
       Nat.repeat Window.advance n w
         = match w.order with
           | .rowFirst => { w with row := w.firstRow + n / width % height, col := w.firstCol + n % width }
           | .columnFirst => { w with row := w.firstRow + n % height, col := w.firstCol + n / height % width })

/-- TABLE_DATA writes its entries at the pointer, one after the other, and answers the pointer's next position; the payload is
cut into entries of the table's size, and an entry written replaces that entry of its table alone (R139, R170). The shapes of
the tables, their places in a Table Set, and the fields of their entries (R134, R170); that bits which name no rule read as
NO_ENTRY and a byte which names no kind as UNUSED is the model's choice (log 18). -/
def Obligations.TableDataWritesEntries : Prop :=
  (∀ (s : State) (p : Packet), s.Takes p → p.body.length ≤ 27 →
    (s.store.state = .reloading → exec (.tableData p) s = .next (s.replied .tableData p (.refused .busy)))
    ∧ (s.store.state ≠ .reloading → s.unit.window = none →
        exec (.tableData p) s = .next (s.replied .tableData p (.refused .noWindow)))
    ∧ ∀ (w : Window) (n : Nat), s.store.state ≠ .reloading → s.unit.window = some w → 1 ≤ n →
        p.body.length = n * w.table.entrySize →
        let written := writeEntries (splitEntries w.table.entrySize n p.body) s.banks.staging w
        exec (.tableData p) s
          = .next (({ s with
              banks := { s.banks with staging := written.1 }
              unit := { s.unit with window := some written.2 } }).replied .tableData p .done
              [byteOf written.2.row, byteOf written.2.col]))
  ∧ (∀ (size n : Nat) (payload : Bytes),
      (splitEntries size n payload).length = n
        ∧ ∀ k, k < n → (splitEntries size n payload)[k]? = some ((payload.drop (k * size)).take size))
  ∧ (∀ (e : Bytes) (rest : List Bytes) (b : TableSet) (w : Window),
      writeEntries [] b w = (b, w)
        ∧ writeEntries (e :: rest) b w
          = writeEntries rest (b.setEntry w.table (w.row * w.table.cols + w.col) e) w.advance)
  ∧ (∀ (b : TableSet) (t t' : TableId) (i j : Nat) (e : Bytes),
      b.bytes.length = 409 → i < t.entries → j < t'.entries → e.length = t.entrySize →
      (b.setEntry t i e).entry t' j = if t' = t ∧ j = i then e else b.entry t' j)
  ∧ (([.zoneMap, .zoneClasses, .stabilityGrid, .capacityCurve, .channelMap, .valveMap, .assortments, .settings] : List TableId).map
        (fun t => [t.number, t.rows, t.cols, t.entries, t.entrySize, t.base])
      = [[1, 5, 13, 65, 1, 0], [2, 1, 8, 8, 4, 65], [3, 6, 12, 72, 1, 97], [4, 1, 16, 16, 2, 169], [5, 1, 8, 8, 6, 201],
          [6, 1, 8, 8, 4, 249], [7, 1, 12, 12, 4, 281], [8, 1, 20, 20, 4, 329]])
  ∧ ∀ b : TableSet,
      (∀ (t : TableId) (i : Nat),
        b.entry t i = (b.bytes.drop (t.base + i * t.entrySize)).take t.entrySize
          ∧ b.table t = (b.bytes.drop t.base).take (t.entries * t.entrySize)
          ∧ ∀ k, i < t.entries → k < t.entrySize → b.byte t i k = u8At (b.entry t i) k)
      ∧ (∀ ring e, ring < 5 → e < 13 →
          let n := u8At (b.entry .zoneMap (ring * 13 + e)) 0
          b.zone ring e
            = if n / 32 = 0 then some .plain else if n / 32 = 1 then some (.cls (n % 16))
              else if n / 32 = 2 then some (.header (decide (n / 16 % 2 = 1)) (n % 16)) else none)
      ∧ (∀ i, i < 8 →
          let e := b.entry .zoneClasses i
          b.classRule i = (if u8At e 0 % 4 = 0 then .openEntry else .noEntry) ∧ b.classBunk i = decide (u8At e 0 / 4 % 2 = 1)
            ∧ b.classDerate i = u8At e 1 ∧ b.classCap i = u16At e 2)
      ∧ (∀ band f, band < 6 → f < 12 → b.stability band f = u8At (b.entry .stabilityGrid (band * 12 + f)) 0)
      ∧ (∀ i, i < 16 → b.capacityPoint i = u16At (b.entry .capacityCurve i) 0)
      ∧ (∀ q, q < 8 →
          let e := b.entry .channelMap q
          b.channelSource q = u8At e 0 ∧ b.channelNumber q = u8At e 1
            ∧ b.channelZero q = (if u16At e 2 < 32768 then (u16At e 2 : Int) else (u16At e 2 : Int) - 65536)
            ∧ b.channelGain q = u16At e 4)
      ∧ (∀ i, i < 8 →
          let e := b.entry .valveMap i
          b.slotKind i = [SlotKind.unused, .slew, .boom, .jib, .ext, .rotator, .grapple, .other].getD (u8At e 0) .unused
            ∧ b.slotPolarity i = (if u8At e 1 < 128 then (u8At e 1 : Int) else (u8At e 1 : Int) - 256)
            ∧ b.slotLookStep i = u16At e 2)
      ∧ (∀ i, i < 12 →
          let e := b.entry .assortments i
          b.assortmentEnabled i = decide (u8At e 0 % 2 = 1) ∧ (b.assortmentCode i).map BitVec.toNat = [u8At e 1, u8At e 2, u8At e 3])
      ∧ (∀ i, i < 20 → b.settingAt i = u32At (b.entry .settings i) 0)
      ∧ ([.bunkLimit, .gripOn, .gripOff, .clearThreshold, .clearFilter, .weighWindow, .tolerance, .overloadFilter,
            .releaseFilter, .hysteresis, .warn, .staleTimeout, .serviceCap, .violationCap, .l1, .l2, .defaultTare,
            .attentionMask, .bunkNear, .valveAddress] : List Setting).map b.setting = (List.range 20).map b.settingAt

/-- TABLE_READ: its tests in their order; the reply carries as many entries as asked, as fit, and as the table has left
(R141). -/
def Obligations.TableReadReturnsEntries : Prop :=
  ∀ (s : State) (p : Packet), s.Takes p → p.body.length ≤ 27 →
    let bank := u8At p.body 0
    let row := u8At p.body 2
    let col := u8At p.body 3
    let count := u8At p.body 4
    (p.body.length ≠ 5 →
      exec (.tableRead p) s = .next (s.closeWindow.replied .tableRead p (.refused .badArgument)))
    ∧ (p.body.length = 5 →
        (1 < bank ∨ (∀ t : TableId, t.number = u8At p.body 1 → t.rows ≤ row ∨ t.cols ≤ col) ∨ count = 0 →
          exec (.tableRead p) s = .next (s.closeWindow.replied .tableRead p (.refused .badArgument)))
        ∧ ∀ t : TableId, t.number = u8At p.body 1 → bank ≤ 1 → row < t.rows → col < t.cols → 1 ≤ count →
            let n := min count (min (25 / t.entrySize) (t.entries - (row * t.cols + col)))
            let source := if bank = 0 then s.banks.active else s.banks.staging
            exec (.tableRead p) s
              = .next
                (if bank = 1 ∧ s.store.state = .reloading then s.closeWindow.replied .tableRead p (.refused .busy)
                else s.closeWindow.replied .tableRead p .done
                  (byteOf n
                    :: ((List.range n).map (fun k => source.entry t (row * t.cols + col + k))).flatten)))

/-- COMMIT: its tests in their order, the swap at the rest point, PENDING otherwise; CANCEL_COMMIT ends a pending commit
(R143, R146). -/
def Obligations.CommitSwapsWaitsOrIsRefused : Prop :=
  ∀ (s : State) (p : Packet), s.Takes p →
    (p.body.length ≤ 27 →
      exec (.commit p) s
        = .next
          (if p.body.length ≠ 0 then s.closeWindow.replied .commit p (.refused .badArgument)
          else if s.store.state = .reloading ∨ s.banks.commit = .pending then
            s.closeWindow.replied .commit p (.refused .busy)
          else match validate s.banks.staging s.router.nodeAddress.toNat with
            | some (t, i) => s.closeWindow.replied .commit p (.refused .invalidTable) [byteOf t.number, byteOf i]
            | none =>
              if (s.banks.staging.table .channelMap ≠ s.banks.active.table .channelMap
                    ∨ s.banks.staging.table .valveMap ≠ s.banks.active.table .valveMap)
                  ∧ s.guard.state ≠ .blocked ∧ s.guard.state ≠ .park then
                s.closeWindow.replied .commit p (.refused .wrongState)
              else if s.lift.state = .empty ∧ s.guard.quiet = true ∧ s.store.state ≠ .storing then
                s.closeWindow.swap.replied .commit p .done
              else ({ s.closeWindow with banks := { s.banks with commit := .pending } }).replied .commit p .accepted))
    ∧ (p.body = [] →
        exec (.cancelCommit p) s
          = .next
            (if s.banks.commit = .pending then
              ({ s.closeWindow with banks := { s.banks with commit := .none } }).replied .cancelCommit p .done
            else s.closeWindow.replied .cancelCommit p (.refused .wrongState)))

/-- Validation names the first entry that fails, tables in id order and entries in index order; which entries of each table
fail; and what a Table Set that passes keeps for its readers (R12, R15, R21, R22, R51, R93, R121, R135, R142, R170). -/
def Obligations.ValidationStopsAtFirstFailure : Prop :=
  (∀ (b : TableSet) (node : Nat) (t : TableId) (i : Nat),
    validate b node = some (t, i) ↔
      i < t.entries ∧ entryFails b node t i = true
        ∧ ∀ t' j, j < t'.entries → (t'.number < t.number ∨ (t' = t ∧ j < i)) → entryFails b node t' j = false)
  ∧ (∀ (b : TableSet) (node i : Nat),
      (entryFails b node .zoneMap i = true ↔
        let n := b.byte .zoneMap i 0
        (i % 13 = 0 ∧ n / 32 ≠ 2) ∨ (i % 13 ≠ 0 ∧ n / 32 ≠ 0 ∧ n / 32 ≠ 1) ∨ (n / 32 ≠ 0 ∧ 7 < n % 16))
      ∧ (entryFails b node .zoneClasses i = true ↔
          let n := b.byte .zoneClasses i 0
          2 ≤ n % 4 ∨ (n % 4 = 1 ∧ n / 4 % 2 = 1) ∨ 1000 < b.classCap i ∨ b.classDerate i < 1 ∨ 100 < b.classDerate i)
      ∧ (entryFails b node .stabilityGrid i = true ↔
          b.byte .stabilityGrid i 0 < 1 ∨ 100 < b.byte .stabilityGrid i 0)
      ∧ (entryFails b node .capacityCurve i = true ↔
          20000 < b.capacityPoint i ∨ (i = 0 ∧ b.capacityPoint i = 0)
            ∨ (0 < i ∧ b.capacityPoint (i - 1) < b.capacityPoint i))
      ∧ (entryFails b node .channelMap i = true ↔
          b.channelSource i < 1 ∨ 30 < b.channelSource i ∨ 15 < b.channelNumber i ∨ b.channelGain i = 0
            ∨ ∃ j, j < i ∧ b.channelSource j = b.channelSource i ∧ b.channelNumber j = b.channelNumber i)
      ∧ (entryFails b node .valveMap i = true ↔
          7 < b.byte .valveMap i 0 ∨ (b.slotPolarity i ≠ 1 ∧ b.slotPolarity i ≠ -1)
            ∨ (b.slotKind i ∈ motionKinds ∧ ∃ j, j < i ∧ b.slotKind j = b.slotKind i)
            ∨ ((b.slotKind i = .slew ∨ b.slotKind i = .boom ∨ b.slotKind i = .jib)
                ∧ (b.slotLookStep i < 5 ∨ 300 < b.slotLookStep i))
            ∨ (b.slotKind i = .ext ∧ (b.slotLookStep i < 10 ∨ 500 < b.slotLookStep i))
            ∨ (i = 7 ∧ ∃ k, k ∈ motionKinds ∧ ∀ j, j < 8 → b.slotKind j ≠ k))
      ∧ (entryFails b node .assortments i = true ↔
          (i = 0 ∧ b.assortmentEnabled i = false)
            ∨ ∃ k, 1 ≤ k ∧ k ≤ 3
                ∧ ¬(48 ≤ b.byte .assortments i k ∧ b.byte .assortments i k ≤ 57)
                ∧ ¬(65 ≤ b.byte .assortments i k ∧ b.byte .assortments i k ≤ 90))
      ∧ (i < 20 →
          let v := b.settingAt i
          let range :=
            ([(1000, 40000), (50, 2500), (20, b.setting .gripOn - 10), (10, 500), (1, 16), (8, 32), (2, 200), (1, 50), (1, 50),
              (10, 200), (500, 1000), (40, 500), (0, 500), (0, 300), (1000, 6000), (500, 5000), (0, 2000), (0, 33554431),
              (500, 1000), (1, 30)] : List (Nat × Nat)).getD i (0, 0)
          (entryFails b node .settings i = true ↔
            v < range.1 ∨ range.2 < v ∨ (i = 5 ∧ v ≠ 8 ∧ v ≠ 16 ∧ v ≠ 32) ∨ (i = 19 ∧ v = node))))
  ∧ ∀ (b : TableSet) (node : Nat), validate b node = none →
      (∀ ring, ring < 5 →
        (∃ isOpen start, b.zone ring 0 = some (.header isOpen start) ∧ start ≤ 7)
          ∧ ∀ e, 1 ≤ e → e ≤ 12 → b.zone ring e = some .plain ∨ ∃ k, b.zone ring e = some (.cls k) ∧ k ≤ 7)
        ∧ (∀ i, i < 8 → 1 ≤ b.classDerate i ∧ b.classDerate i ≤ 100 ∧ b.classCap i ≤ 1000
            ∧ ¬(b.classRule i = .noEntry ∧ b.classBunk i = true))
        ∧ (∀ band f, band < 6 → f < 12 → 1 ≤ b.stability band f ∧ b.stability band f ≤ 100)
        ∧ 1 ≤ b.capacityPoint 0 ∧ b.capacityPoint 0 ≤ 20000
        ∧ (∀ i, i < 15 → b.capacityPoint (i + 1) ≤ b.capacityPoint i)
        ∧ (∀ i, i < 8 → 1 ≤ b.channelSource i ∧ b.channelSource i ≤ 30 ∧ b.channelNumber i ≤ 15
            ∧ b.channelGain i ≠ 0)
        ∧ (∀ i j, i < j → j < 8 → ¬(b.channelSource i = b.channelSource j ∧ b.channelNumber i = b.channelNumber j))
        ∧ (∀ k, k ∈ motionKinds → ∃ i, i < 8 ∧ b.slotKind i = k ∧ ∀ j, j < 8 → b.slotKind j = k → j = i)
        ∧ (∀ i, i < 8 →
            (b.slotPolarity i = 1 ∨ b.slotPolarity i = -1)
              ∧ (b.slotKind i = .slew ∨ b.slotKind i = .boom ∨ b.slotKind i = .jib →
                  5 ≤ b.slotLookStep i ∧ b.slotLookStep i ≤ 300)
              ∧ (b.slotKind i = .ext → 10 ≤ b.slotLookStep i ∧ b.slotLookStep i ≤ 500))
        ∧ b.assortmentEnabled 0 = true
        ∧ (∀ i x, i < 12 → x ∈ b.assortmentCode i →
            (48 ≤ x.toNat ∧ x.toNat ≤ 57) ∨ (65 ≤ x.toNat ∧ x.toNat ≤ 90))
        ∧ 1000 ≤ b.setting .bunkLimit ∧ b.setting .bunkLimit ≤ 40000
        ∧ 50 ≤ b.setting .gripOn ∧ b.setting .gripOn ≤ 2500
        ∧ 20 ≤ b.setting .gripOff ∧ b.setting .gripOff + 10 ≤ b.setting .gripOn
        ∧ 10 ≤ b.setting .clearThreshold ∧ b.setting .clearThreshold ≤ 500
        ∧ 1 ≤ b.setting .clearFilter ∧ b.setting .clearFilter ≤ 16
        ∧ (b.setting .weighWindow = 8 ∨ b.setting .weighWindow = 16 ∨ b.setting .weighWindow = 32)
        ∧ 2 ≤ b.setting .tolerance ∧ b.setting .tolerance ≤ 200
        ∧ 1 ≤ b.setting .overloadFilter ∧ b.setting .overloadFilter ≤ 50
        ∧ 1 ≤ b.setting .releaseFilter ∧ b.setting .releaseFilter ≤ 50
        ∧ 10 ≤ b.setting .hysteresis ∧ b.setting .hysteresis ≤ 200
        ∧ 500 ≤ b.setting .warn ∧ b.setting .warn ≤ 1000
        ∧ 40 ≤ b.setting .staleTimeout ∧ b.setting .staleTimeout ≤ 500
        ∧ b.setting .serviceCap ≤ 500 ∧ b.setting .violationCap ≤ 300
        ∧ 1000 ≤ b.setting .l1 ∧ b.setting .l1 ≤ 6000 ∧ 500 ≤ b.setting .l2 ∧ b.setting .l2 ≤ 5000
        ∧ b.setting .defaultTare ≤ 2000 ∧ b.setting .attentionMask ≤ 33554431
        ∧ 500 ≤ b.setting .bunkNear ∧ b.setting .bunkNear ≤ 1000
        ∧ 1 ≤ b.setting .valveAddress ∧ b.setting .valveAddress ≤ 30 ∧ b.setting .valveAddress ≠ node

/-- PENDING_COMMIT_SWAP and every other occasion: a pending commit swaps when the four tests hold, and stays pending
otherwise; the swap copies staging whole, and its neighbours act (R33, R84, R92, R94, R131, R144, R145). -/
def Obligations.PendingCommitSwapsAtOccasion : Prop :=
  ∀ s : State,
    exec .pendingCommitSwap s = .next s.attemptSwap.driveAttn
    ∧ s.attemptSwap
        = (if s.banks.commit = .pending ∧ s.lift.state = .empty ∧ s.guard.quiet = true ∧ s.store.state ≠ .storing
              ∧ ((s.banks.staging.table .channelMap = s.banks.active.table .channelMap
                    ∧ s.banks.staging.table .valveMap = s.banks.active.table .valveMap)
                  ∨ s.guard.state = .blocked ∨ s.guard.state = .park)
              ∧ s.banks.staging.setting .valveAddress ≠ s.router.nodeAddress.toNat then
            s.swap
          else s)
    ∧ (let new := s.banks.staging
      let u := ({ s with
        banks := ⟨new, new, true, .none⟩
        openSet := if s.banks.active.table .channelMap = new.table .channelMap then s.openSet else none
        lift := { s.lift with
          search := if s.banks.active.setting .weighWindow = new.setting .weighWindow then s.lift.search
            else s.lift.search.map (fun search : TareSearch => { search with window := [] }) }
        tally := { s.tally with
          selected := if new.assortmentEnabled s.tally.selected = true then s.tally.selected else 0 } }).latch .swapDone
      s.swap
        = ((u.judge .nearCapacity (u.cause .nearCapacity)).judge .bunkNear (u.cause .bunkNear)).judge .bunkFull
            (u.cause .bunkFull))

/-- STORE and RELOAD: their tests in their order; STORE leaves an image that does not match, RELOAD leaves staging until it
ends (R151, R154). What Table Set the image holds while the store runs is the model's choice (log 29) and is not said. -/
def Obligations.StoreAndReloadStart : Prop :=
  ∀ (s : State) (p : Packet), s.Takes p → s.store.image.length = 411 → p.body.length ≤ 27 →
    (∃ (image : Bytes) (draws : Nat),
      exec (.store p) s
          = .next
            (if p.body.length ≠ 0 then s.closeWindow.replied .store p (.refused .badArgument)
            else if s.store.state ≠ .idle then s.closeWindow.replied .store p (.refused .busy)
            else if s.banks.activeValid = false then s.closeWindow.replied .store p (.refused .noTables)
            else ({ s.closeWindow with
              store := { s.store with state := .storing, image := image }
              freeDraws := draws }).replied .store p .accepted)
        ∧ imageMatches image = false ∧ image.length = 411)
    ∧ exec (.reload p) s
        = .next
          (if p.body.length ≠ 0 then s.closeWindow.replied .reload p (.refused .badArgument)
          else if s.store.state ≠ .idle then s.closeWindow.replied .reload p (.refused .busy)
          else if s.banks.commit = .pending then s.closeWindow.replied .reload p (.refused .stagingLocked)
          else if s.store.imageValid = false then s.closeWindow.replied .reload p (.refused .imageInvalid)
          else ({ s.closeWindow with store := { s.store with state := .reloading } }).replied .reload p .accepted)

/-- STORE_END: a store that reads back as it was written sets the image-valid flag and STORE_DONE; one that does not clears
it with STORE_FAILED and IMAGE_INVALID; the store state is IDLE before a pending commit is attempted (R149, R152).
RELOAD_END: a matching image replaces staging whole; otherwise staging stands and the image-valid flag is cleared with
IMAGE_INVALID (R154). NONVOLATILE_CONTENT_LOSS changes bytes of the image and nothing else (R149). That the bytes left or
lost come as operands is the model's choice (log 12); of several changes of one byte the last one holds. That the check's most
significant byte stands first is deduced (log 13). The image's check: its register from all ones, a byte taken into its most
significant end, and eight shifts (R149). -/
def Obligations.StoreAndReloadEnd : Prop :=
  (∀ (s : State) (left : List ByteChange), s.store.state = .storing → s.banks.active.bytes.length = 409 →
     let written := s.banks.active.bytes ++ bytes16 (crc16 s.banks.active.bytes).toNat
     let image := changeBytes written left
     (image = written →
       exec (.storeEnd left) s
         = .next (({ s with store := { s.store with image := written, imageValid := true, state := .idle } }).latch
             .storeDone).attemptSwap.driveAttn)
     ∧ (image ≠ written →
         exec (.storeEnd left) s
           = .next ((({ s with store := { s.store with image := image, imageValid := false, state := .idle } }).latch
               .storeFailed).latch .imageInvalid).attemptSwap.driveAttn))
  ∧ ((∀ s : State, s.store.state = .reloading →
       (imageMatches s.store.image = true →
         exec .reloadEnd s
           = .next ({ s with
               banks := { s.banks with staging := ⟨s.store.image.take 409⟩ }
               store := { s.store with state := .idle } }).driveAttn)
       ∧ (imageMatches s.store.image = false →
           exec .reloadEnd s
             = .next (({ s with store := { s.store with state := .idle, imageValid := false } }).latch
                 .imageInvalid).driveAttn))
     ∧ (∀ (s : State) (lost : List ByteChange),
         exec (.nonvolatileContentLoss lost) s
           = .next ({ s with store := { s.store with image := changeBytes s.store.image lost } }).driveAttn)
     ∧ ∀ image : Bytes,
         imageMatches image = true ↔ u16At image 409 = (crc16 (image.take 409)).toNat)
  ∧ (∀ (image : Bytes) (changes : List ByteChange),
      (changeBytes image changes).length = image.length
      ∧ (∀ k, (∀ c, c ∈ changes → c.offset ≠ k) → (changeBytes image changes)[k]? = image[k]?)
      ∧ ∀ (before after : List ByteChange) (c : ByteChange), changes = before ++ c :: after → c.offset < image.length →
          (∀ d, d ∈ after → d.offset ≠ c.offset) → (changeBytes image changes)[c.offset]? = some c.value)
  ∧ (crc16 [] = 0xFFFF#16
      ∧ ∀ (bytes : Bytes) (b : Byte),
          crc16 (bytes ++ [b])
            = Nat.repeat (fun r : BitVec 16 => if 2 ^ 15 ≤ r.toNat then (r <<< 1) ^^^ 0x1021#16 else r <<< 1) 8
                (crc16 bytes ^^^ BitVec.ofNat 16 (b.toNat * 256)))

/-- IMAGE_READ_END: both banks are loaded from a matching image or with the factory defaults, the two flags follow, the tare
value is the loaded default, the bunk causes are judged, and IMAGE_INVALID latches where there was no match (R86, R101,
R136, R150, R166). The content of the factory defaults (R135, R136). -/
def Obligations.ImageReadEndLoadsBanks : Prop :=
  (∀ s : State, s.store.reading = true →
    let ok := imageMatches s.store.image
    let bank : TableSet := if ok = true then ⟨s.store.image.take 409⟩ else factoryDefaults
    let u := { s with
      banks := { s.banks with active := bank, staging := bank, activeValid := ok }
      store := { s.store with imageValid := ok, state := .idle, reading := false }
      lift := { s.lift with tare := bank.setting .defaultTare } }
    let v := if ok = true then u else u.latch .imageInvalid
    exec .imageReadEnd s
      = .next ((v.judge .bunkNear (v.cause .bunkNear)).judge .bunkFull (v.cause .bunkFull)).driveAttn)
  ∧ (let b := factoryDefaults
    b.bytes.length = 409
      ∧ (∀ ring, ring < 5 →
          b.zone ring 0 = some (.header true 0) ∧ ∀ e, 1 ≤ e → e ≤ 12 → b.zone ring e = some .plain)
      ∧ (∀ i, i < 8 → b.classRule i = .openEntry ∧ b.classCap i = 1000 ∧ b.classBunk i = false ∧ b.classDerate i = 100)
      ∧ (∀ band f, band < 6 → f < 12 → b.stability band f = 100)
      ∧ (∀ i, i < 16 → b.capacityPoint i = 0)
      ∧ (∀ q, q < 8 → b.channelSource q = 0 ∧ b.channelNumber q = 0 ∧ b.channelZero q = 0 ∧ b.channelGain q = 1024)
      ∧ (∀ i, i < 8 → b.slotKind i = .unused ∧ b.slotPolarity i = 1 ∧ b.slotLookStep i = 0)
      ∧ (∀ i, i < 12 →
          (b.assortmentEnabled i = true ↔ i = 0)
            ∧ (b.assortmentCode i).map BitVec.toNat = [48, 48 + i / 10, 48 + i % 10])
      ∧ ((List.range 20).map b.settingAt
          = [14000, 600, 300, 60, 3, 16, 15, 5, 10, 50, 900, 100, 250, 100, 4200, 3300, 320, 33554431, 900, 0]))

/-! ### Invariants that every step keeps -/

/-- The lists of fixed length keep it (R61, R88, R124, R170). The output queues stay in bounds, address, link state and CSO
move together, and a pending line reset has its reply, known by the mark that is the model's (log 7), on the way (R106, R113,
R116, R160, R161). -/
def Obligations.SizesAndLineKept : Prop :=
  (∀ s t : State, s.SizesOk → step s = .next t → t.SizesOk)
  ∧ (∀ s t : State, s.QueuesOk → s.RouterOk → s.LineResetOk → step s = .next t →
       t.QueuesOk ∧ t.RouterOk ∧ t.LineResetOk)

/-- VEN is asserted exactly when the guard state is HOLD, ENFORCE or SERVICE and the force test is off (R38). -/
def Obligations.EnableKept : Prop := ∀ s t : State, s.VenOk → step s = .next t → t.VenOk

/-- The guard stays in a state the rules allow, and the blocks keep their reset values during an image read (R39 to R41, R45,
R47, R55, R62, R105, R130). That the service key is held as sampled, so that SERVICE has it turned, is the model's choice (log
4), and so is that the store state is IDLE during the read (log 9). -/
def Obligations.GuardKept : Prop :=
  ∀ s t : State, s.GuardOk → s.ReadingOk → step s = .next t → t.GuardOk ∧ t.ReadingOk

/-- The parts of the Lift Unit's state agree with the lift state, and the tallies stay in their ranges (R37, R67 to R71, R81,
R85, R88, R93, R95, R99). -/
def Obligations.LiftAndTallyKept : Prop :=
  ∀ s t : State, s.LiftOk → s.TallyOk → step s = .next t → t.LiftOk ∧ t.TallyOk

/-- What is measured stays in its ranges: the open set's slots, the latest tip position, the filter's counts, the windows, the
lift context, the queued records, the tare value and the tare search (R17, R28, R29, R68, R70 to R73, R80, R84 to R86, R123). The
active bank holds the factory defaults while its flag is clear (R121, R136), and the selection names an enabled assortment
outside an image read (R94). -/
def Obligations.MeasurementsStayInRange : Prop :=
  (∀ s t : State, s.ActiveOk → step s = .next t → t.ActiveOk)
  ∧ (∀ s t : State, s.SizesOk → s.LiftOk → s.ReadingOk → s.ValidOk → s.ActiveOk → s.MeasuredOk →
      step s = .next t → t.MeasuredOk)
  ∧ ∀ s t : State, s.ReadingOk → s.ValidOk → s.SelectionOk → step s = .next t → t.SelectionOk

/-- Staging does not change while a commit stays pending, and no window is open and no reload runs meanwhile (R147, R154). -/
def Obligations.StagingLockedWhilePending : Prop :=
  ∀ s t : State, s.CommitOk → s.ReadingOk → step s = .next t →
    t.CommitOk
      ∧ (s.banks.commit = .pending → t.banks.commit = .pending → t.banks.staging = s.banks.staging)

/-- Outside an image read, every persistent condition whose cause is present is latched (R163, R164). -/
def Obligations.PresentCausesStayLatched : Prop :=
  ∀ s t : State, s.ReadingOk → s.LatchedOk → step s = .next t → t.LatchedOk

/-- The active bank with its flag set, staging under a pending commit and the image while it matches hold validated content,
as long as no image byte is lost and no store reads back wrong (R134, R149, R150, R151). -/
def Obligations.ValidatedContentKept : Prop :=
  ∀ (s t : State) (c : Instr), s.SizesOk → s.CommitOk → s.ReadingOk → s.ValidOk →
    (∀ lost, c ≠ .nonvolatileContentLoss lost) → (∀ left, c = .storeEnd left → left = []) →
    exec c s = .next t → t.ValidOk

/-- But for the end of an image read, the active bank changes only by a swap: it becomes staging whole, the flag is set, the
commit state is NONE and SWAP_DONE is latched. Quiet is true and no store runs, and no lift was in progress before the event
or none is after it (R62, R144, R145). -/
def Obligations.ActiveBankChangesAtRest : Prop :=
  ∀ (s t : State) (c : Instr), c ≠ .imageReadEnd → exec c s = .next t → t.banks.active ≠ s.banks.active →
    t.banks = ⟨s.banks.staging, s.banks.staging, true, .none⟩ ∧ t.isLatched .swapDone = true ∧ t.guard.quiet = true
      ∧ t.store.state ≠ .storing ∧ (s.lift.state = .empty ∨ t.lift.state = .empty)

end Statements
end

