-- ==== Sys2Proof/Laws/State.lean ====
section
/-! SUPPORT. Which fields of the state each shared operation leaves alone: one conjunction per operation, whose parts simp
uses as one rewriting rule per field. -/

namespace Sys2Proof.Machine

/-! ### Condition Set and outputs -/

/-- `latch` changes `conditions` and no other field. -/
@[simp] theorem State.latch_frame (k : Condition) (s : State) :
    (s.latch k).line = s.line ∧ (s.latch k).router = s.router ∧ (s.latch k).unit = s.unit
      ∧ (s.latch k).openSet = s.openSet ∧ (s.latch k).tip = s.tip ∧ (s.latch k).capacity = s.capacity
      ∧ (s.latch k).guard = s.guard ∧ (s.latch k).lift = s.lift ∧ (s.latch k).tally = s.tally
      ∧ (s.latch k).banks = s.banks ∧ (s.latch k).store = s.store ∧ (s.latch k).pins = s.pins
      ∧ (s.latch k).freeDraws = s.freeDraws ∧ (s.latch k).pending = s.pending := ⟨rfl, rfl, rfl, rfl, rfl, rfl, rfl, rfl, rfl, rfl, rfl, rfl, rfl, rfl⟩

/-- `judge` changes `conditions` and no other field. -/
@[simp] theorem State.judge_frame (k : Condition) (cause : Bool) (s : State) :
    (s.judge k cause).line = s.line ∧ (s.judge k cause).router = s.router ∧ (s.judge k cause).unit = s.unit
      ∧ (s.judge k cause).openSet = s.openSet ∧ (s.judge k cause).tip = s.tip
      ∧ (s.judge k cause).capacity = s.capacity ∧ (s.judge k cause).guard = s.guard ∧ (s.judge k cause).lift = s.lift
      ∧ (s.judge k cause).tally = s.tally ∧ (s.judge k cause).banks = s.banks ∧ (s.judge k cause).store = s.store
      ∧ (s.judge k cause).pins = s.pins ∧ (s.judge k cause).freeDraws = s.freeDraws
      ∧ (s.judge k cause).pending = s.pending := by
  unfold State.judge; (repeat' split) <;> simp

/-- `judgeBunk` changes `conditions` and no other field. -/
@[simp] theorem State.judgeBunk_frame (s : State) :
    (s.judgeBunk).line = s.line ∧ (s.judgeBunk).router = s.router ∧ (s.judgeBunk).unit = s.unit
      ∧ (s.judgeBunk).openSet = s.openSet ∧ (s.judgeBunk).tip = s.tip ∧ (s.judgeBunk).capacity = s.capacity
      ∧ (s.judgeBunk).guard = s.guard ∧ (s.judgeBunk).lift = s.lift ∧ (s.judgeBunk).tally = s.tally
      ∧ (s.judgeBunk).banks = s.banks ∧ (s.judgeBunk).store = s.store ∧ (s.judgeBunk).pins = s.pins
      ∧ (s.judgeBunk).freeDraws = s.freeDraws ∧ (s.judgeBunk).pending = s.pending := by simp [State.judgeBunk]

/-- `driveAttn` changes `conditions` and no other field. -/
@[simp] theorem State.driveAttn_frame (s : State) :
    (s.driveAttn).line = s.line ∧ (s.driveAttn).router = s.router ∧ (s.driveAttn).unit = s.unit
      ∧ (s.driveAttn).openSet = s.openSet ∧ (s.driveAttn).tip = s.tip ∧ (s.driveAttn).capacity = s.capacity
      ∧ (s.driveAttn).guard = s.guard ∧ (s.driveAttn).lift = s.lift ∧ (s.driveAttn).tally = s.tally
      ∧ (s.driveAttn).banks = s.banks ∧ (s.driveAttn).store = s.store ∧ (s.driveAttn).pins = s.pins
      ∧ (s.driveAttn).freeDraws = s.freeDraws ∧ (s.driveAttn).pending = s.pending := ⟨rfl, rfl, rfl, rfl, rfl, rfl, rfl, rfl, rfl, rfl, rfl, rfl, rfl, rfl⟩

/-- `driveVen` changes `guard` and no other field. -/
@[simp] theorem State.driveVen_frame (s : State) :
    (s.driveVen).line = s.line ∧ (s.driveVen).router = s.router ∧ (s.driveVen).unit = s.unit
      ∧ (s.driveVen).openSet = s.openSet ∧ (s.driveVen).tip = s.tip ∧ (s.driveVen).capacity = s.capacity
      ∧ (s.driveVen).lift = s.lift ∧ (s.driveVen).tally = s.tally ∧ (s.driveVen).banks = s.banks
      ∧ (s.driveVen).store = s.store ∧ (s.driveVen).conditions = s.conditions ∧ (s.driveVen).pins = s.pins
      ∧ (s.driveVen).freeDraws = s.freeDraws ∧ (s.driveVen).pending = s.pending := ⟨rfl, rfl, rfl, rfl, rfl, rfl, rfl, rfl, rfl, rfl, rfl, rfl, rfl, rfl⟩

/-! ### Queues, replies, window and pins -/

/-- `forwardCrane` changes `line`, `conditions` and no other field. -/
@[simp] theorem State.forwardCrane_frame (f : Frame) (s : State) :
    (s.forwardCrane f).router = s.router ∧ (s.forwardCrane f).unit = s.unit ∧ (s.forwardCrane f).openSet = s.openSet
      ∧ (s.forwardCrane f).tip = s.tip ∧ (s.forwardCrane f).capacity = s.capacity ∧ (s.forwardCrane f).guard = s.guard
      ∧ (s.forwardCrane f).lift = s.lift ∧ (s.forwardCrane f).tally = s.tally ∧ (s.forwardCrane f).banks = s.banks
      ∧ (s.forwardCrane f).store = s.store ∧ (s.forwardCrane f).pins = s.pins
      ∧ (s.forwardCrane f).freeDraws = s.freeDraws ∧ (s.forwardCrane f).pending = s.pending := by
  unfold State.forwardCrane; (repeat' split) <;> simp

/-- `forwardCab` changes `line`, `conditions` and no other field. -/
@[simp] theorem State.forwardCab_frame (f : Frame) (s : State) :
    (s.forwardCab f).router = s.router ∧ (s.forwardCab f).unit = s.unit ∧ (s.forwardCab f).openSet = s.openSet
      ∧ (s.forwardCab f).tip = s.tip ∧ (s.forwardCab f).capacity = s.capacity ∧ (s.forwardCab f).guard = s.guard
      ∧ (s.forwardCab f).lift = s.lift ∧ (s.forwardCab f).tally = s.tally ∧ (s.forwardCab f).banks = s.banks
      ∧ (s.forwardCab f).store = s.store ∧ (s.forwardCab f).pins = s.pins ∧ (s.forwardCab f).freeDraws = s.freeDraws
      ∧ (s.forwardCab f).pending = s.pending := by
  unfold State.forwardCab; (repeat' split) <;> simp

/-- `placeReply` changes `line`, `unit` and no other field. -/
@[simp] theorem State.placeReply_frame (r : OutFrame) (s : State) :
    (s.placeReply r).router = s.router ∧ (s.placeReply r).openSet = s.openSet ∧ (s.placeReply r).tip = s.tip
      ∧ (s.placeReply r).capacity = s.capacity ∧ (s.placeReply r).guard = s.guard ∧ (s.placeReply r).lift = s.lift
      ∧ (s.placeReply r).tally = s.tally ∧ (s.placeReply r).banks = s.banks ∧ (s.placeReply r).store = s.store
      ∧ (s.placeReply r).conditions = s.conditions ∧ (s.placeReply r).pins = s.pins
      ∧ (s.placeReply r).freeDraws = s.freeDraws ∧ (s.placeReply r).pending = s.pending := by
  unfold State.placeReply; (repeat' split) <;> simp

/-- `replyJoins` changes `line`, `unit` and no other field. -/
@[simp] theorem State.replyJoins_frame (s : State) :
    (s.replyJoins).router = s.router ∧ (s.replyJoins).openSet = s.openSet ∧ (s.replyJoins).tip = s.tip
      ∧ (s.replyJoins).capacity = s.capacity ∧ (s.replyJoins).guard = s.guard ∧ (s.replyJoins).lift = s.lift
      ∧ (s.replyJoins).tally = s.tally ∧ (s.replyJoins).banks = s.banks ∧ (s.replyJoins).store = s.store
      ∧ (s.replyJoins).conditions = s.conditions ∧ (s.replyJoins).pins = s.pins
      ∧ (s.replyJoins).freeDraws = s.freeDraws ∧ (s.replyJoins).pending = s.pending := by
  unfold State.replyJoins; (repeat' split) <;> simp

/-- `closeWindow` changes `unit` and no other field. -/
@[simp] theorem State.closeWindow_frame (s : State) :
    (s.closeWindow).line = s.line ∧ (s.closeWindow).router = s.router ∧ (s.closeWindow).openSet = s.openSet
      ∧ (s.closeWindow).tip = s.tip ∧ (s.closeWindow).capacity = s.capacity ∧ (s.closeWindow).guard = s.guard
      ∧ (s.closeWindow).lift = s.lift ∧ (s.closeWindow).tally = s.tally ∧ (s.closeWindow).banks = s.banks
      ∧ (s.closeWindow).store = s.store ∧ (s.closeWindow).conditions = s.conditions ∧ (s.closeWindow).pins = s.pins
      ∧ (s.closeWindow).freeDraws = s.freeDraws ∧ (s.closeWindow).pending = s.pending := ⟨rfl, rfl, rfl, rfl, rfl, rfl, rfl, rfl, rfl, rfl, rfl, rfl, rfl, rfl⟩

/-- `windowStep` changes `unit` and no other field. -/
@[simp] theorem State.windowStep_frame (payload : Bytes) (s : State) :
    (s.windowStep payload).line = s.line ∧ (s.windowStep payload).router = s.router
      ∧ (s.windowStep payload).openSet = s.openSet ∧ (s.windowStep payload).tip = s.tip
      ∧ (s.windowStep payload).capacity = s.capacity ∧ (s.windowStep payload).guard = s.guard
      ∧ (s.windowStep payload).lift = s.lift ∧ (s.windowStep payload).tally = s.tally
      ∧ (s.windowStep payload).banks = s.banks ∧ (s.windowStep payload).store = s.store
      ∧ (s.windowStep payload).conditions = s.conditions ∧ (s.windowStep payload).pins = s.pins
      ∧ (s.windowStep payload).freeDraws = s.freeDraws ∧ (s.windowStep payload).pending = s.pending := by
  unfold State.windowStep; (repeat' split) <;> simp

/-- `samplePins` changes `pins` and no other field. -/
@[simp] theorem State.samplePins_frame (p : Pins) (s : State) :
    (s.samplePins p).line = s.line ∧ (s.samplePins p).router = s.router ∧ (s.samplePins p).unit = s.unit
      ∧ (s.samplePins p).openSet = s.openSet ∧ (s.samplePins p).tip = s.tip ∧ (s.samplePins p).capacity = s.capacity
      ∧ (s.samplePins p).guard = s.guard ∧ (s.samplePins p).lift = s.lift ∧ (s.samplePins p).tally = s.tally
      ∧ (s.samplePins p).banks = s.banks ∧ (s.samplePins p).store = s.store
      ∧ (s.samplePins p).conditions = s.conditions ∧ (s.samplePins p).freeDraws = s.freeDraws
      ∧ (s.samplePins p).pending = s.pending := ⟨rfl, rfl, rfl, rfl, rfl, rfl, rfl, rfl, rfl, rfl, rfl, rfl, rfl, rfl⟩

/-! ### The blocks -/

/-- `queueRecord` changes `tally`, `conditions` and no other field. -/
@[simp] theorem State.queueRecord_frame (r : LiftRecord) (s : State) :
    (s.queueRecord r).line = s.line ∧ (s.queueRecord r).router = s.router ∧ (s.queueRecord r).unit = s.unit
      ∧ (s.queueRecord r).openSet = s.openSet ∧ (s.queueRecord r).tip = s.tip
      ∧ (s.queueRecord r).capacity = s.capacity ∧ (s.queueRecord r).guard = s.guard ∧ (s.queueRecord r).lift = s.lift
      ∧ (s.queueRecord r).banks = s.banks ∧ (s.queueRecord r).store = s.store ∧ (s.queueRecord r).pins = s.pins
      ∧ (s.queueRecord r).freeDraws = s.freeDraws ∧ (s.queueRecord r).pending = s.pending := by
  unfold State.queueRecord; (repeat' split) <;> simp

/-- `bookRecord` changes `tally`, `conditions` and no other field. -/
@[simp] theorem State.bookRecord_frame (r : LiftRecord) (s : State) :
    (s.bookRecord r).line = s.line ∧ (s.bookRecord r).router = s.router ∧ (s.bookRecord r).unit = s.unit
      ∧ (s.bookRecord r).openSet = s.openSet ∧ (s.bookRecord r).tip = s.tip ∧ (s.bookRecord r).capacity = s.capacity
      ∧ (s.bookRecord r).guard = s.guard ∧ (s.bookRecord r).lift = s.lift ∧ (s.bookRecord r).banks = s.banks
      ∧ (s.bookRecord r).store = s.store ∧ (s.bookRecord r).pins = s.pins ∧ (s.bookRecord r).freeDraws = s.freeDraws
      ∧ (s.bookRecord r).pending = s.pending := by
  simp only [State.bookRecord]; split <;> simp

/-- `swap` changes `banks`, `openSet`, `lift`, `tally`, `conditions` and no other field. -/
@[simp] theorem State.swap_frame (s : State) :
    (s.swap).line = s.line ∧ (s.swap).router = s.router ∧ (s.swap).unit = s.unit ∧ (s.swap).tip = s.tip
      ∧ (s.swap).capacity = s.capacity ∧ (s.swap).guard = s.guard ∧ (s.swap).store = s.store ∧ (s.swap).pins = s.pins
      ∧ (s.swap).freeDraws = s.freeDraws ∧ (s.swap).pending = s.pending := by simp [State.swap]

/-- `attemptSwap` changes `banks`, `openSet`, `lift`, `tally`, `conditions` and no other field. -/
@[simp] theorem State.attemptSwap_frame (s : State) :
    (s.attemptSwap).line = s.line ∧ (s.attemptSwap).router = s.router ∧ (s.attemptSwap).unit = s.unit
      ∧ (s.attemptSwap).tip = s.tip ∧ (s.attemptSwap).capacity = s.capacity ∧ (s.attemptSwap).guard = s.guard
      ∧ (s.attemptSwap).store = s.store ∧ (s.attemptSwap).pins = s.pins ∧ (s.attemptSwap).freeDraws = s.freeDraws
      ∧ (s.attemptSwap).pending = s.pending := by
  unfold State.attemptSwap; (repeat' split) <;> simp

/-- `failSearch` changes `lift`, `conditions` and no other field. -/
@[simp] theorem State.failSearch_frame (s : State) :
    (s.failSearch).line = s.line ∧ (s.failSearch).router = s.router ∧ (s.failSearch).unit = s.unit
      ∧ (s.failSearch).openSet = s.openSet ∧ (s.failSearch).tip = s.tip ∧ (s.failSearch).capacity = s.capacity
      ∧ (s.failSearch).guard = s.guard ∧ (s.failSearch).tally = s.tally ∧ (s.failSearch).banks = s.banks
      ∧ (s.failSearch).store = s.store ∧ (s.failSearch).pins = s.pins ∧ (s.failSearch).freeDraws = s.freeDraws
      ∧ (s.failSearch).pending = s.pending := by
  unfold State.failSearch; (repeat' split) <;> simp

/-- `endLift` changes `lift` and no other field. -/
@[simp] theorem State.endLift_frame (s : State) :
    (s.endLift).line = s.line ∧ (s.endLift).router = s.router ∧ (s.endLift).unit = s.unit
      ∧ (s.endLift).openSet = s.openSet ∧ (s.endLift).tip = s.tip ∧ (s.endLift).capacity = s.capacity
      ∧ (s.endLift).guard = s.guard ∧ (s.endLift).tally = s.tally ∧ (s.endLift).banks = s.banks
      ∧ (s.endLift).store = s.store ∧ (s.endLift).conditions = s.conditions ∧ (s.endLift).pins = s.pins
      ∧ (s.endLift).freeDraws = s.freeDraws ∧ (s.endLift).pending = s.pending := ⟨rfl, rfl, rfl, rfl, rfl, rfl, rfl, rfl, rfl, rfl, rfl, rfl, rfl, rfl⟩

/-- `endLiftRecorded` changes `lift`, `tally`, `conditions` and no other field. -/
@[simp] theorem State.endLiftRecorded_frame (kind : LiftKind) (release : Option Cell) (s : State) :
    (s.endLiftRecorded kind release).line = s.line ∧ (s.endLiftRecorded kind release).router = s.router
      ∧ (s.endLiftRecorded kind release).unit = s.unit ∧ (s.endLiftRecorded kind release).openSet = s.openSet
      ∧ (s.endLiftRecorded kind release).tip = s.tip ∧ (s.endLiftRecorded kind release).capacity = s.capacity
      ∧ (s.endLiftRecorded kind release).guard = s.guard ∧ (s.endLiftRecorded kind release).banks = s.banks
      ∧ (s.endLiftRecorded kind release).store = s.store ∧ (s.endLiftRecorded kind release).pins = s.pins
      ∧ (s.endLiftRecorded kind release).freeDraws = s.freeDraws
      ∧ (s.endLiftRecorded kind release).pending = s.pending := by
  unfold State.endLiftRecorded; (repeat' split) <;> simp

/-- `beginLift` changes `lift` and no other field. -/
@[simp] theorem State.beginLift_frame (t : TipPosition) (s : State) :
    (s.beginLift t).line = s.line ∧ (s.beginLift t).router = s.router ∧ (s.beginLift t).unit = s.unit
      ∧ (s.beginLift t).openSet = s.openSet ∧ (s.beginLift t).tip = s.tip ∧ (s.beginLift t).capacity = s.capacity
      ∧ (s.beginLift t).guard = s.guard ∧ (s.beginLift t).tally = s.tally ∧ (s.beginLift t).banks = s.banks
      ∧ (s.beginLift t).store = s.store ∧ (s.beginLift t).conditions = s.conditions ∧ (s.beginLift t).pins = s.pins
      ∧ (s.beginLift t).freeDraws = s.freeDraws ∧ (s.beginLift t).pending = s.pending := ⟨rfl, rfl, rfl, rfl, rfl, rfl, rfl, rfl, rfl, rfl, rfl, rfl, rfl, rfl⟩

/-- `markOverload` changes `lift` and no other field. -/
@[simp] theorem State.markOverload_frame (s : State) :
    (s.markOverload).line = s.line ∧ (s.markOverload).router = s.router ∧ (s.markOverload).unit = s.unit
      ∧ (s.markOverload).openSet = s.openSet ∧ (s.markOverload).tip = s.tip ∧ (s.markOverload).capacity = s.capacity
      ∧ (s.markOverload).guard = s.guard ∧ (s.markOverload).tally = s.tally ∧ (s.markOverload).banks = s.banks
      ∧ (s.markOverload).store = s.store ∧ (s.markOverload).conditions = s.conditions ∧ (s.markOverload).pins = s.pins
      ∧ (s.markOverload).freeDraws = s.freeDraws ∧ (s.markOverload).pending = s.pending := by
  unfold State.markOverload; (repeat' split) <;> simp

/-- `clearStep` changes `lift` and no other field. -/
@[simp] theorem State.clearStep_frame (t : TipPosition) (s : State) :
    (s.clearStep t).line = s.line ∧ (s.clearStep t).router = s.router ∧ (s.clearStep t).unit = s.unit
      ∧ (s.clearStep t).openSet = s.openSet ∧ (s.clearStep t).tip = s.tip ∧ (s.clearStep t).capacity = s.capacity
      ∧ (s.clearStep t).guard = s.guard ∧ (s.clearStep t).tally = s.tally ∧ (s.clearStep t).banks = s.banks
      ∧ (s.clearStep t).store = s.store ∧ (s.clearStep t).conditions = s.conditions ∧ (s.clearStep t).pins = s.pins
      ∧ (s.clearStep t).freeDraws = s.freeDraws ∧ (s.clearStep t).pending = s.pending := by
  unfold State.clearStep; (repeat' split) <;> simp

/-- `weighStep` changes `lift` and no other field. -/
@[simp] theorem State.weighStep_frame (t : TipPosition) (s : State) :
    (s.weighStep t).line = s.line ∧ (s.weighStep t).router = s.router ∧ (s.weighStep t).unit = s.unit
      ∧ (s.weighStep t).openSet = s.openSet ∧ (s.weighStep t).tip = s.tip ∧ (s.weighStep t).capacity = s.capacity
      ∧ (s.weighStep t).guard = s.guard ∧ (s.weighStep t).tally = s.tally ∧ (s.weighStep t).banks = s.banks
      ∧ (s.weighStep t).store = s.store ∧ (s.weighStep t).conditions = s.conditions ∧ (s.weighStep t).pins = s.pins
      ∧ (s.weighStep t).freeDraws = s.freeDraws ∧ (s.weighStep t).pending = s.pending := by
  simp only [State.weighStep]; split <;> simp

/-- `releaseAloft` changes `banks`, `openSet`, `lift`, `tally`, `conditions` and no other field. -/
@[simp] theorem State.releaseAloft_frame (t : TipPosition) (s : State) :
    (s.releaseAloft t).line = s.line ∧ (s.releaseAloft t).router = s.router ∧ (s.releaseAloft t).unit = s.unit
      ∧ (s.releaseAloft t).tip = s.tip ∧ (s.releaseAloft t).capacity = s.capacity ∧ (s.releaseAloft t).guard = s.guard
      ∧ (s.releaseAloft t).store = s.store ∧ (s.releaseAloft t).pins = s.pins
      ∧ (s.releaseAloft t).freeDraws = s.freeDraws ∧ (s.releaseAloft t).pending = s.pending := by simp [State.releaseAloft]

/-- `liftStep` changes `banks`, `openSet`, `lift`, `tally`, `conditions` and no other field. -/
@[simp] theorem State.liftStep_frame (e : GrappleEvent) (t : TipPosition) (s : State) :
    (s.liftStep e t).line = s.line ∧ (s.liftStep e t).router = s.router ∧ (s.liftStep e t).unit = s.unit
      ∧ (s.liftStep e t).tip = s.tip ∧ (s.liftStep e t).capacity = s.capacity ∧ (s.liftStep e t).guard = s.guard
      ∧ (s.liftStep e t).store = s.store ∧ (s.liftStep e t).pins = s.pins ∧ (s.liftStep e t).freeDraws = s.freeDraws
      ∧ (s.liftStep e t).pending = s.pending := by
  unfold State.liftStep; (repeat' split) <;> simp

/-- `tareStep` changes `lift`, `conditions` and no other field. -/
@[simp] theorem State.tareStep_frame (t : TipPosition) (s : State) :
    (s.tareStep t).line = s.line ∧ (s.tareStep t).router = s.router ∧ (s.tareStep t).unit = s.unit
      ∧ (s.tareStep t).openSet = s.openSet ∧ (s.tareStep t).tip = s.tip ∧ (s.tareStep t).capacity = s.capacity
      ∧ (s.tareStep t).guard = s.guard ∧ (s.tareStep t).tally = s.tally ∧ (s.tareStep t).banks = s.banks
      ∧ (s.tareStep t).store = s.store ∧ (s.tareStep t).pins = s.pins ∧ (s.tareStep t).freeDraws = s.freeDraws
      ∧ (s.tareStep t).pending = s.pending := by
  simp only [State.tareStep]; (repeat' split) <;> simp

/-- `grappleStep` changes `lift`, `conditions` and no other field. -/
@[simp] theorem State.grappleStep_frame (t : TipPosition) (s : State) :
    (s.grappleStep t).line = s.line ∧ (s.grappleStep t).router = s.router ∧ (s.grappleStep t).unit = s.unit
      ∧ (s.grappleStep t).openSet = s.openSet ∧ (s.grappleStep t).tip = s.tip
      ∧ (s.grappleStep t).capacity = s.capacity ∧ (s.grappleStep t).guard = s.guard
      ∧ (s.grappleStep t).tally = s.tally ∧ (s.grappleStep t).banks = s.banks ∧ (s.grappleStep t).store = s.store
      ∧ (s.grappleStep t).pins = s.pins ∧ (s.grappleStep t).freeDraws = s.freeDraws
      ∧ (s.grappleStep t).pending = s.pending := by
  simp only [State.grappleStep]; split <;> simp

/-- `liftTake` changes `banks`, `openSet`, `lift`, `tally`, `conditions` and no other field. -/
@[simp] theorem State.liftTake_frame (t : TipPosition) (s : State) :
    (s.liftTake t).line = s.line ∧ (s.liftTake t).router = s.router ∧ (s.liftTake t).unit = s.unit
      ∧ (s.liftTake t).tip = s.tip ∧ (s.liftTake t).capacity = s.capacity ∧ (s.liftTake t).guard = s.guard
      ∧ (s.liftTake t).store = s.store ∧ (s.liftTake t).pins = s.pins ∧ (s.liftTake t).freeDraws = s.freeDraws
      ∧ (s.liftTake t).pending = s.pending := by
  simp only [State.liftTake]; split <;> simp

/-- `abandonLift` changes `lift`, `tally`, `conditions` and no other field. -/
@[simp] theorem State.abandonLift_frame (s : State) :
    (s.abandonLift).line = s.line ∧ (s.abandonLift).router = s.router ∧ (s.abandonLift).unit = s.unit
      ∧ (s.abandonLift).openSet = s.openSet ∧ (s.abandonLift).tip = s.tip ∧ (s.abandonLift).capacity = s.capacity
      ∧ (s.abandonLift).guard = s.guard ∧ (s.abandonLift).banks = s.banks ∧ (s.abandonLift).store = s.store
      ∧ (s.abandonLift).pins = s.pins ∧ (s.abandonLift).freeDraws = s.freeDraws ∧ (s.abandonLift).pending = s.pending := by
  unfold State.abandonLift; (repeat' split) <;> simp

/-- `liftGuardChange` changes `lift`, `tally`, `conditions` and no other field. -/
@[simp] theorem State.liftGuardChange_frame (g : GuardState) (s : State) :
    (s.liftGuardChange g).line = s.line ∧ (s.liftGuardChange g).router = s.router
      ∧ (s.liftGuardChange g).unit = s.unit ∧ (s.liftGuardChange g).openSet = s.openSet
      ∧ (s.liftGuardChange g).tip = s.tip ∧ (s.liftGuardChange g).capacity = s.capacity
      ∧ (s.liftGuardChange g).guard = s.guard ∧ (s.liftGuardChange g).banks = s.banks
      ∧ (s.liftGuardChange g).store = s.store ∧ (s.liftGuardChange g).pins = s.pins
      ∧ (s.liftGuardChange g).freeDraws = s.freeDraws ∧ (s.liftGuardChange g).pending = s.pending := by
  cases g <;> simp [State.liftGuardChange]

/-- `enterGuard` changes `guard`, `openSet`, `lift`, `tally`, `banks`, `conditions` and no other field. -/
@[simp] theorem State.enterGuard_frame (g : GuardState) (byExpiry : Bool) (s : State) :
    (s.enterGuard g byExpiry).line = s.line ∧ (s.enterGuard g byExpiry).router = s.router
      ∧ (s.enterGuard g byExpiry).unit = s.unit ∧ (s.enterGuard g byExpiry).tip = s.tip
      ∧ (s.enterGuard g byExpiry).capacity = s.capacity ∧ (s.enterGuard g byExpiry).store = s.store
      ∧ (s.enterGuard g byExpiry).pins = s.pins ∧ (s.enterGuard g byExpiry).freeDraws = s.freeDraws
      ∧ (s.enterGuard g byExpiry).pending = s.pending := by
  simp only [State.enterGuard]; split <;> simp

/-- `guardTake` changes `guard`, `openSet`, `lift`, `tally`, `banks`, `conditions` and no other field. -/
@[simp] theorem State.guardTake_frame (s : State) :
    (s.guardTake).line = s.line ∧ (s.guardTake).router = s.router ∧ (s.guardTake).unit = s.unit
      ∧ (s.guardTake).tip = s.tip ∧ (s.guardTake).capacity = s.capacity ∧ (s.guardTake).store = s.store
      ∧ (s.guardTake).pins = s.pins ∧ (s.guardTake).freeDraws = s.freeDraws ∧ (s.guardTake).pending = s.pending := by
  simp only [State.guardTake]; (repeat' split) <;> simp

/-- `watchExpires` changes `guard`, `conditions` and no other field. -/
@[simp] theorem State.watchExpires_frame (s : State) :
    (s.watchExpires).line = s.line ∧ (s.watchExpires).router = s.router ∧ (s.watchExpires).unit = s.unit
      ∧ (s.watchExpires).openSet = s.openSet ∧ (s.watchExpires).tip = s.tip ∧ (s.watchExpires).capacity = s.capacity
      ∧ (s.watchExpires).lift = s.lift ∧ (s.watchExpires).tally = s.tally ∧ (s.watchExpires).banks = s.banks
      ∧ (s.watchExpires).store = s.store ∧ (s.watchExpires).pins = s.pins ∧ (s.watchExpires).freeDraws = s.freeDraws
      ∧ (s.watchExpires).pending = s.pending := ⟨rfl, rfl, rfl, rfl, rfl, rfl, rfl, rfl, rfl, rfl, rfl, rfl, rfl⟩

/-- `watchExpiry` changes `guard`, `openSet`, `lift`, `tally`, `banks`, `conditions` and no other field. -/
@[simp] theorem State.watchExpiry_frame (s : State) :
    (s.watchExpiry).line = s.line ∧ (s.watchExpiry).router = s.router ∧ (s.watchExpiry).unit = s.unit
      ∧ (s.watchExpiry).tip = s.tip ∧ (s.watchExpiry).capacity = s.capacity ∧ (s.watchExpiry).store = s.store
      ∧ (s.watchExpiry).pins = s.pins ∧ (s.watchExpiry).freeDraws = s.freeDraws ∧ (s.watchExpiry).pending = s.pending := by
  simp only [State.watchExpiry]; split <;> simp

/-- `keyLost` changes `guard`, `openSet`, `lift`, `tally`, `banks`, `conditions`, `pins` and no other field. -/
@[simp] theorem State.keyLost_frame (s : State) :
    (s.keyLost).line = s.line ∧ (s.keyLost).router = s.router ∧ (s.keyLost).unit = s.unit ∧ (s.keyLost).tip = s.tip
      ∧ (s.keyLost).capacity = s.capacity ∧ (s.keyLost).store = s.store ∧ (s.keyLost).freeDraws = s.freeDraws
      ∧ (s.keyLost).pending = s.pending := by
  simp only [State.keyLost]; split <;> simp

/-- `setForceTest` changes `guard`, `conditions` and no other field. -/
@[simp] theorem State.setForceTest_frame (on : Bool) (s : State) :
    (s.setForceTest on).line = s.line ∧ (s.setForceTest on).router = s.router ∧ (s.setForceTest on).unit = s.unit
      ∧ (s.setForceTest on).openSet = s.openSet ∧ (s.setForceTest on).tip = s.tip
      ∧ (s.setForceTest on).capacity = s.capacity ∧ (s.setForceTest on).lift = s.lift
      ∧ (s.setForceTest on).tally = s.tally ∧ (s.setForceTest on).banks = s.banks
      ∧ (s.setForceTest on).store = s.store ∧ (s.setForceTest on).pins = s.pins
      ∧ (s.setForceTest on).freeDraws = s.freeDraws ∧ (s.setForceTest on).pending = s.pending := by
  simp only [State.setForceTest]; split <;> simp

/-- `takeRecord` changes `capacity`, `tip`, `conditions` and no other field. -/
@[simp] theorem State.takeRecord_frame (t : TipPosition) (s : State) :
    (s.takeRecord t).line = s.line ∧ (s.takeRecord t).router = s.router ∧ (s.takeRecord t).unit = s.unit
      ∧ (s.takeRecord t).openSet = s.openSet ∧ (s.takeRecord t).guard = s.guard ∧ (s.takeRecord t).lift = s.lift
      ∧ (s.takeRecord t).tally = s.tally ∧ (s.takeRecord t).banks = s.banks ∧ (s.takeRecord t).store = s.store
      ∧ (s.takeRecord t).pins = s.pins ∧ (s.takeRecord t).freeDraws = s.freeDraws
      ∧ (s.takeRecord t).pending = s.pending := by simp [State.takeRecord]

/-- The record taken is the latest tip position, with its capacity filled in. -/
@[simp] theorem State.takeRecord_tip (t : TipPosition) (s : State) :
    (s.takeRecord t).tip = some (withCapacity s.banks.active t) := by simp [State.takeRecord]

/-- A complete set goes through the Capacity Monitor, the Envelope Guard and the Lift Unit. -/
theorem State.deliver_eq (x : SampleSet) (s : State) :
    s.deliver x
      = (s.takeRecord (geometryRecord s.banks.active s.lift.tare x)).guardTake.liftTake
          (withCapacity s.banks.active (geometryRecord s.banks.active s.lift.tare x)) := by
  unfold State.deliver
  generalize geometryRecord s.banks.active s.lift.tare x = g
  have h := State.takeRecord_tip g s
  generalize s.takeRecord g = v at h
  simp only [h]

/-- `deliver` changes `tip`, `capacity`, `guard`, `openSet`, `lift`, `tally`, `banks`, `conditions` and no other field. -/
@[simp] theorem State.deliver_frame (x : SampleSet) (s : State) :
    (s.deliver x).line = s.line ∧ (s.deliver x).router = s.router ∧ (s.deliver x).unit = s.unit
      ∧ (s.deliver x).store = s.store ∧ (s.deliver x).pins = s.pins ∧ (s.deliver x).freeDraws = s.freeDraws
      ∧ (s.deliver x).pending = s.pending := by simp [State.deliver_eq]

/-- `snoop` changes `tip`, `capacity`, `guard`, `openSet`, `lift`, `tally`, `banks`, `conditions` and no other field. -/
@[simp] theorem State.snoop_frame (f : Frame) (s : State) :
    (s.snoop f).line = s.line ∧ (s.snoop f).router = s.router ∧ (s.snoop f).unit = s.unit
      ∧ (s.snoop f).store = s.store ∧ (s.snoop f).pins = s.pins ∧ (s.snoop f).freeDraws = s.freeDraws
      ∧ (s.snoop f).pending = s.pending := by
  simp only [State.snoop]; (repeat' split) <;> simp

/-- `reportLost` changes `guard`, `lift` and no other field. -/
@[simp] theorem State.reportLost_frame (s : State) :
    (s.reportLost).line = s.line ∧ (s.reportLost).router = s.router ∧ (s.reportLost).unit = s.unit
      ∧ (s.reportLost).openSet = s.openSet ∧ (s.reportLost).tip = s.tip ∧ (s.reportLost).capacity = s.capacity
      ∧ (s.reportLost).tally = s.tally ∧ (s.reportLost).banks = s.banks ∧ (s.reportLost).store = s.store
      ∧ (s.reportLost).conditions = s.conditions ∧ (s.reportLost).pins = s.pins
      ∧ (s.reportLost).freeDraws = s.freeDraws ∧ (s.reportLost).pending = s.pending := ⟨rfl, rfl, rfl, rfl, rfl, rfl, rfl, rfl, rfl, rfl, rfl, rfl, rfl⟩

/-- `takeSync` changes `openSet`, `guard`, `lift` and no other field. -/
@[simp] theorem State.takeSync_frame (sequence : Byte) (s : State) :
    (s.takeSync sequence).line = s.line ∧ (s.takeSync sequence).router = s.router
      ∧ (s.takeSync sequence).unit = s.unit ∧ (s.takeSync sequence).tip = s.tip
      ∧ (s.takeSync sequence).capacity = s.capacity ∧ (s.takeSync sequence).tally = s.tally
      ∧ (s.takeSync sequence).banks = s.banks ∧ (s.takeSync sequence).store = s.store
      ∧ (s.takeSync sequence).conditions = s.conditions ∧ (s.takeSync sequence).pins = s.pins
      ∧ (s.takeSync sequence).freeDraws = s.freeDraws ∧ (s.takeSync sequence).pending = s.pending := by
  simp only [State.takeSync]; split <;> simp

/-- `writeFlags` changes `guard` and no other field. -/
@[simp] theorem State.writeFlags_frame (out : List Filtered) (s : State) :
    (s.writeFlags out).line = s.line ∧ (s.writeFlags out).router = s.router ∧ (s.writeFlags out).unit = s.unit
      ∧ (s.writeFlags out).openSet = s.openSet ∧ (s.writeFlags out).tip = s.tip
      ∧ (s.writeFlags out).capacity = s.capacity ∧ (s.writeFlags out).lift = s.lift
      ∧ (s.writeFlags out).tally = s.tally ∧ (s.writeFlags out).banks = s.banks ∧ (s.writeFlags out).store = s.store
      ∧ (s.writeFlags out).conditions = s.conditions ∧ (s.writeFlags out).pins = s.pins
      ∧ (s.writeFlags out).freeDraws = s.freeDraws ∧ (s.writeFlags out).pending = s.pending := by
  unfold State.writeFlags; (repeat' split) <;> simp

/-- `latchZoneStop` changes `conditions` and no other field. -/
@[simp] theorem State.latchZoneStop_frame (out : List Filtered) (s : State) :
    (s.latchZoneStop out).line = s.line ∧ (s.latchZoneStop out).router = s.router
      ∧ (s.latchZoneStop out).unit = s.unit ∧ (s.latchZoneStop out).openSet = s.openSet
      ∧ (s.latchZoneStop out).tip = s.tip ∧ (s.latchZoneStop out).capacity = s.capacity
      ∧ (s.latchZoneStop out).guard = s.guard ∧ (s.latchZoneStop out).lift = s.lift
      ∧ (s.latchZoneStop out).tally = s.tally ∧ (s.latchZoneStop out).banks = s.banks
      ∧ (s.latchZoneStop out).store = s.store ∧ (s.latchZoneStop out).pins = s.pins
      ∧ (s.latchZoneStop out).freeDraws = s.freeDraws ∧ (s.latchZoneStop out).pending = s.pending := by
  unfold State.latchZoneStop; (repeat' split) <;> simp

/-- `joinFiltered` changes `line`, `guard`, `banks`, `openSet`, `lift`, `tally`, `conditions` and no other field. -/
@[simp] theorem State.joinFiltered_frame (f : Frame) (out : List Filtered) (s : State) :
    (s.joinFiltered f out).router = s.router ∧ (s.joinFiltered f out).unit = s.unit
      ∧ (s.joinFiltered f out).tip = s.tip ∧ (s.joinFiltered f out).capacity = s.capacity
      ∧ (s.joinFiltered f out).store = s.store ∧ (s.joinFiltered f out).pins = s.pins
      ∧ (s.joinFiltered f out).freeDraws = s.freeDraws ∧ (s.joinFiltered f out).pending = s.pending := by
  simp only [State.joinFiltered]; (repeat' split) <;> simp

/-- `guardDemand` changes `line`, `guard`, `banks`, `openSet`, `lift`, `tally`, `conditions` and no other field. -/
@[simp] theorem State.guardDemand_frame (f : Frame) (s : State) :
    (s.guardDemand f).router = s.router ∧ (s.guardDemand f).unit = s.unit ∧ (s.guardDemand f).tip = s.tip
      ∧ (s.guardDemand f).capacity = s.capacity ∧ (s.guardDemand f).store = s.store ∧ (s.guardDemand f).pins = s.pins
      ∧ (s.guardDemand f).freeDraws = s.freeDraws ∧ (s.guardDemand f).pending = s.pending := by
  simp only [State.guardDemand]; split <;> simp

/-- `beginStore` changes `store`, `freeDraws` and no other field. -/
@[simp] theorem State.beginStore_frame (s : State) :
    (s.beginStore).line = s.line ∧ (s.beginStore).router = s.router ∧ (s.beginStore).unit = s.unit
      ∧ (s.beginStore).openSet = s.openSet ∧ (s.beginStore).tip = s.tip ∧ (s.beginStore).capacity = s.capacity
      ∧ (s.beginStore).guard = s.guard ∧ (s.beginStore).lift = s.lift ∧ (s.beginStore).tally = s.tally
      ∧ (s.beginStore).banks = s.banks ∧ (s.beginStore).conditions = s.conditions ∧ (s.beginStore).pins = s.pins
      ∧ (s.beginStore).pending = s.pending := ⟨rfl, rfl, rfl, rfl, rfl, rfl, rfl, rfl, rfl, rfl, rfl, rfl, rfl⟩

/-- `imageFailed` changes `store`, `conditions` and no other field. -/
@[simp] theorem State.imageFailed_frame (s : State) :
    (s.imageFailed).line = s.line ∧ (s.imageFailed).router = s.router ∧ (s.imageFailed).unit = s.unit
      ∧ (s.imageFailed).openSet = s.openSet ∧ (s.imageFailed).tip = s.tip ∧ (s.imageFailed).capacity = s.capacity
      ∧ (s.imageFailed).guard = s.guard ∧ (s.imageFailed).lift = s.lift ∧ (s.imageFailed).tally = s.tally
      ∧ (s.imageFailed).banks = s.banks ∧ (s.imageFailed).pins = s.pins ∧ (s.imageFailed).freeDraws = s.freeDraws
      ∧ (s.imageFailed).pending = s.pending := ⟨rfl, rfl, rfl, rfl, rfl, rfl, rfl, rfl, rfl, rfl, rfl, rfl, rfl⟩

/-- `storeOutcome` changes `store`, `conditions` and no other field. -/
@[simp] theorem State.storeOutcome_frame (image : Bytes) (s : State) :
    (s.storeOutcome image).line = s.line ∧ (s.storeOutcome image).router = s.router
      ∧ (s.storeOutcome image).unit = s.unit ∧ (s.storeOutcome image).openSet = s.openSet
      ∧ (s.storeOutcome image).tip = s.tip ∧ (s.storeOutcome image).capacity = s.capacity
      ∧ (s.storeOutcome image).guard = s.guard ∧ (s.storeOutcome image).lift = s.lift
      ∧ (s.storeOutcome image).tally = s.tally ∧ (s.storeOutcome image).banks = s.banks
      ∧ (s.storeOutcome image).pins = s.pins ∧ (s.storeOutcome image).freeDraws = s.freeDraws
      ∧ (s.storeOutcome image).pending = s.pending := by
  simp only [State.storeOutcome]; split <;> simp

/-- `endStore` changes `store`, `banks`, `openSet`, `lift`, `tally`, `conditions` and no other field. -/
@[simp] theorem State.endStore_frame (left : List ByteChange) (s : State) :
    (s.endStore left).line = s.line ∧ (s.endStore left).router = s.router ∧ (s.endStore left).unit = s.unit
      ∧ (s.endStore left).tip = s.tip ∧ (s.endStore left).capacity = s.capacity ∧ (s.endStore left).guard = s.guard
      ∧ (s.endStore left).pins = s.pins ∧ (s.endStore left).freeDraws = s.freeDraws
      ∧ (s.endStore left).pending = s.pending := by simp [State.endStore]

/-- `endReload` changes `store`, `banks`, `conditions` and no other field. -/
@[simp] theorem State.endReload_frame (s : State) :
    (s.endReload).line = s.line ∧ (s.endReload).router = s.router ∧ (s.endReload).unit = s.unit
      ∧ (s.endReload).openSet = s.openSet ∧ (s.endReload).tip = s.tip ∧ (s.endReload).capacity = s.capacity
      ∧ (s.endReload).guard = s.guard ∧ (s.endReload).lift = s.lift ∧ (s.endReload).tally = s.tally
      ∧ (s.endReload).pins = s.pins ∧ (s.endReload).freeDraws = s.freeDraws ∧ (s.endReload).pending = s.pending := by
  simp only [State.endReload]; split <;> simp

/-- `endImageRead` changes `store`, `banks`, `lift`, `conditions` and no other field. -/
@[simp] theorem State.endImageRead_frame (s : State) :
    (s.endImageRead).line = s.line ∧ (s.endImageRead).router = s.router ∧ (s.endImageRead).unit = s.unit
      ∧ (s.endImageRead).openSet = s.openSet ∧ (s.endImageRead).tip = s.tip ∧ (s.endImageRead).capacity = s.capacity
      ∧ (s.endImageRead).guard = s.guard ∧ (s.endImageRead).tally = s.tally ∧ (s.endImageRead).pins = s.pins
      ∧ (s.endImageRead).freeDraws = s.freeDraws ∧ (s.endImageRead).pending = s.pending := by simp [State.endImageRead]

/-- `craneDeparts` changes `line` and no other field. -/
@[simp] theorem State.craneDeparts_frame (s : State) :
    (s.craneDeparts).router = s.router ∧ (s.craneDeparts).unit = s.unit ∧ (s.craneDeparts).openSet = s.openSet
      ∧ (s.craneDeparts).tip = s.tip ∧ (s.craneDeparts).capacity = s.capacity ∧ (s.craneDeparts).guard = s.guard
      ∧ (s.craneDeparts).lift = s.lift ∧ (s.craneDeparts).tally = s.tally ∧ (s.craneDeparts).banks = s.banks
      ∧ (s.craneDeparts).store = s.store ∧ (s.craneDeparts).conditions = s.conditions ∧ (s.craneDeparts).pins = s.pins
      ∧ (s.craneDeparts).freeDraws = s.freeDraws ∧ (s.craneDeparts).pending = s.pending := ⟨rfl, rfl, rfl, rfl, rfl, rfl, rfl, rfl, rfl, rfl, rfl, rfl, rfl, rfl⟩

end Sys2Proof.Machine
end

