-- ==== Sys2Proof/Laws/Conditions.lean ====
section
/-! SUPPORT. What latching, judging and driving the outputs do to the latched set, and what the causes look at. -/

namespace Sys2Proof.Machine

/-- Every condition has its own bit, below 25 (R163). -/
theorem Condition.bit_lt (k : Condition) : k.bit < 25 := by cases k <;> decide

/-- Two conditions with one bit are the same (R163). -/
theorem Condition.bit_inj {j k : Condition} (h : j.bit = k.bit) : j = k := by
  revert h; cases j <;> cases k <;> decide

/-- Every bit below 25 is a condition's (R163). -/
theorem Condition.exists_bit : ∀ n, n < 25 → ∃ k : Condition, k.bit = n := by
  intro n h
  have : n ∈ [Condition.powerOn, .imageInvalid, .crcCab, .crcCrane, .fwdDrop, .commandLost, .valveReject, .sampleStale,
      .outOfMap, .zoneViolation, .zoneStop, .nearCapacity, .overload, .bunkNear, .bunkFull, .tallyUnderrun, .queueOverflow,
      .tareDone, .tareFailed, .swapDone, .storeDone, .storeFailed, .serviceKeyLost, .forced, .liftAbandoned].map
      Condition.bit := by
    have h' : n ∈ List.range 25 := List.mem_range.mpr h
    exact h'
  obtain ⟨k, _, hk⟩ := List.mem_map.mp this
  exact ⟨k, hk⟩

/-- The set of one condition holds its bit alone. -/
theorem Condition.mask_getLsbD (j k : Condition) : j.mask.getLsbD k.bit = (j == k) := by
  have := Condition.bit_lt k
  simp only [Condition.mask, BitVec.getLsbD_twoPow]
  by_cases h : j = k
  · subst h; simp [this]
  · have hb : j.bit ≠ k.bit := fun e => h (Condition.bit_inj e)
    simp [h, hb]

/-- A latch adds one condition to the latched ones. -/
@[simp] theorem State.isLatched_latch (s : State) (j k : Condition) :
    (s.latch j).isLatched k = (s.isLatched k || j == k) := by
  simp [State.isLatched, State.latch, Condition.mask_getLsbD]

/-- A judgement adds its condition where the cause is present. -/
@[simp] theorem State.isLatched_judge (s : State) (j k : Condition) (c : Bool) :
    (s.judge j c).isLatched k = (s.isLatched k || (c && j == k)) := by
  cases c <;> simp [State.judge]

/-- Driving ATTN leaves the latched set. -/
@[simp] theorem State.isLatched_driveAttn (s : State) (k : Condition) : s.driveAttn.isLatched k = s.isLatched k := rfl

/-- The latched set is a function of the conditions alone. -/
theorem State.isLatched_congr {s t : State} (h : s.conditions.latched = t.conditions.latched) (k : Condition) :
    s.isLatched k = t.isLatched k := by simp [State.isLatched, h]

/-- A cause looks at the image-valid flag, the guard, the tip, the overload state, the active bank and the tallies only. -/
theorem State.cause_congr {s t : State} (hs : s.store.imageValid = t.store.imageValid) (hg : s.guard.stale = t.guard.stale)
    (hf : s.guard.forceTest = t.guard.forceTest) (ht : s.tip = t.tip) (ho : s.capacity.overload = t.capacity.overload)
    (hb : s.banks.active = t.banks.active) (hm : s.tally.tallies = t.tally.tallies) (k : Condition) :
    s.cause k = t.cause k := by
  have h1 : s.outOfMapCause = t.outOfMapCause := by unfold State.outOfMapCause; rw [ht]
  have h2 : s.zoneViolationCause = t.zoneViolationCause := by unfold State.zoneViolationCause; rw [ht]
  have h3 : s.nearCapacityCause = t.nearCapacityCause := by unfold State.nearCapacityCause; rw [ht, hb]
  have h4 : s.bunkNearCause = t.bunkNearCause := by unfold State.bunkNearCause TallyUnit.bunkTotal; rw [hb, hm]
  have h5 : s.bunkFullCause = t.bunkFullCause := by unfold State.bunkFullCause TallyUnit.bunkTotal; rw [hb, hm]
  unfold State.cause
  rw [hs, hg, hf, ho, h1, h2, h3, h4, h5]

/-- Latching changes no cause. -/
@[simp] theorem State.cause_latch (s : State) (j k : Condition) : (s.latch j).cause k = s.cause k :=
  State.cause_congr rfl rfl rfl rfl rfl rfl rfl k

/-- A judgement changes no cause. -/
@[simp] theorem State.cause_judge (s : State) (j k : Condition) (c : Bool) : (s.judge j c).cause k = s.cause k := by
  cases c <;> simp [State.judge]

/-- Driving ATTN changes no cause. -/
@[simp] theorem State.cause_driveAttn (s : State) (k : Condition) : s.driveAttn.cause k = s.cause k :=
  State.cause_congr rfl rfl rfl rfl rfl rfl rfl k

/-- Closing the window changes no cause. -/
@[simp] theorem State.cause_closeWindow (s : State) (k : Condition) : s.closeWindow.cause k = s.cause k :=
  State.cause_congr rfl rfl rfl rfl rfl rfl rfl k

/-- The named causes are the causes of their conditions. -/
theorem State.named_causes (s : State) :
    s.outOfMapCause = s.cause .outOfMap ∧ s.zoneViolationCause = s.cause .zoneViolation
      ∧ s.nearCapacityCause = s.cause .nearCapacity ∧ s.bunkNearCause = s.cause .bunkNear
      ∧ s.bunkFullCause = s.cause .bunkFull := ⟨rfl, rfl, rfl, rfl, rfl⟩

/-- Judging the bunk conditions, by their causes. -/
theorem State.judgeBunk_eq (s : State) :
    s.judgeBunk = (s.judge .bunkNear (s.cause .bunkNear)).judge .bunkFull (s.cause .bunkFull) := rfl

/-- The present set holds the conditions whose causes are present (R159). -/
theorem State.presentSet_getLsbD (s : State) (k : Condition) : s.presentSet.getLsbD k.bit = s.cause k := by
  have base : ∀ (l : List Condition) (acc : BitVec 25),
      (l.foldl (fun acc c => if s.cause c then acc ||| c.mask else acc) acc).getLsbD k.bit
        = (acc.getLsbD k.bit || (l.contains k && s.cause k)) := by
    intro l
    induction l with
    | nil => intro acc; simp
    | cons c l ih =>
      intro acc
      rw [List.foldl_cons, ih]
      by_cases hk : c = k
      · subst hk
        cases hc : s.cause c <;> simp [Condition.mask_getLsbD]
      · have hk' : (c == k) = false := by simpa using hk
        cases hc : s.cause c <;> simp [Condition.mask_getLsbD, hk', Ne.symm hk]
  have := base persistentConditions 0
  rw [State.presentSet, this]
  cases k <;> simp [persistentConditions, State.cause]

end Sys2Proof.Machine
end

