-- ==== Sys2Proof/Laws/Commands.lean ====
section
/-! SUPPORT. What the event of a command can do: the command identifiers, the commands that are taken, and the cases of the
Router's dispositions. -/

namespace Sys2Proof.Machine

/-! ### Identifiers -/

/-- A command's identifier names it (R168). -/
theorem commandOfByte_code (c : CommandId) : commandOfByte (commandCode c) = some c := by cases c <;> decide

/-- A payload that begins with a command's identifier names it. -/
@[simp] theorem commandOfPayload_code (c : CommandId) (body : Bytes) :
    commandOfPayload (commandCode c :: body) = some c := by simp [commandOfPayload, commandOfByte_code]

/-- An identifier that a byte names is the byte (R168). -/
theorem commandCode_of_byte {b : Byte} {c : CommandId} (h : commandOfByte b = some c) : commandCode c = b := by
  have := List.find?_some h
  simpa using this

/-- Two commands with one identifier are the same (R168). -/
theorem commandCode_inj {c d : CommandId} (h : commandCode c = commandCode d) : c = d := by
  have := commandOfByte_code c
  rw [h, commandOfByte_code] at this
  exact (Option.some.inj this).symm

/-! ### Taken commands -/

/-- The payload of a command row is one byte longer than its operand. -/
@[simp] theorem commandFrame_payload_length (c : CommandId) (p : Packet) :
    (commandFrame c p).payload.length = p.body.length + 1 := by simp [commandFrame]

/-- A frame that is not too long, outside an image read, is routed. -/
theorem cabPort_routed {f : Frame} {route : State → State} {s : State} (hl : f.payload.length ≤ 28)
    (hr : s.store.reading = false) : cabPort f route s = route s := by
  simp [cabPort, Nat.not_lt.mpr hl, hr]

/-- During an image read a frame does nothing (R105). -/
theorem cabPort_reading {f : Frame} {route : State → State} {s : State} (hl : f.payload.length ≤ 28)
    (hr : s.store.reading = true) : cabPort f route s = s := by
  simp [cabPort, Nat.not_lt.mpr hl, hr]

/-- A frame of a command to the node address of a LINKED machine is handed to the Command Unit (R109). -/
theorem routeCommand_handed {f : Frame} {judge : State → Answer} {s : State} (hk : s.router.link = .linked)
    (hd : f.dest = s.router.nodeAddress) : routeCommand f judge s = handCommand f judge s := by
  simp [routeCommand, hk, hd]

/-- A command handed over with an empty reply slot and no line reset pending is taken (R117, R160). -/
theorem handCommand_taken {f : Frame} {judge : State → Answer} {s : State} (hp : s.unit.lineResetPending = false)
    (hs : s.unit.replySlot = none) : handCommand f judge s = takeCommand f judge s := by
  simp [handCommand, hp, hs]

/-- The event of a command ends with its answer as the reply. -/
def Answer.ends (a : Answer) (c : CommandId) (p : Packet) : State := a.state.replied c p a.verdict a.data

/-- DONE. -/
@[simp] theorem State.done_ends (s : State) (data : Bytes) (c : CommandId) (p : Packet) :
    (s.done data).ends c p = s.replied c p .done data := rfl

/-- ACCEPTED. -/
@[simp] theorem State.accept_ends (s : State) (c : CommandId) (p : Packet) : s.accept.ends c p = s.replied c p .accepted :=
  rfl

/-- REFUSED. -/
@[simp] theorem State.refuse_ends (s : State) (r : Reason) (c : CommandId) (p : Packet) :
    (s.refuse r).ends c p = s.replied c p (.refused r) := rfl

/-- Taking a command: judged on the state with its window step done, then replied to. -/
theorem takeCommand_driveAttn (c : CommandId) (p : Packet) (judge : State → Answer) (s : State) :
    (takeCommand (commandFrame c p) judge s).driveAttn
      = (judge (s.windowStep (commandFrame c p).payload)).ends c p := rfl

/-- Every command but TABLE DATA closes the window first (R140). -/
theorem windowStep_closes {c : CommandId} (h : c ≠ .tableData) (p : Packet) (s : State) :
    s.windowStep (commandFrame c p).payload = s.closeWindow := by
  simp [State.windowStep, commandFrame, h]

/-- TABLE DATA leaves the window open (R140). -/
theorem windowStep_tableData (p : Packet) (s : State) : s.windowStep (commandFrame .tableData p).payload = s := by
  simp [State.windowStep, commandFrame]

/-- The event of a taken command. -/
theorem commandEvent_taken {s : State} {p : Packet} (c : CommandId) (judge : State → Answer) (h : s.Takes p)
    (hl : p.body.length ≤ 27) :
    commandEvent (commandFrame c p) judge s
      = .next ((judge (s.windowStep (commandFrame c p).payload)).ends c p) := by
  obtain ⟨hk, hr, hp, hs, hd⟩ := h
  rw [commandEvent, finish, cabPort_routed (by simp only [commandFrame, List.length_cons]; omega) hr, routeCommand_handed hk (by simpa [commandFrame] using hd),
    handCommand_taken hp hs, takeCommand_driveAttn]

/-- The event of a taken command other than TABLE DATA. -/
theorem commandEvent_closed {s : State} {p : Packet} {c : CommandId} (judge : State → Answer) (hc : c ≠ .tableData)
    (h : s.Takes p) (hl : p.body.length ≤ 27) :
    commandEvent (commandFrame c p) judge s = .next ((judge s.closeWindow).ends c p) := by
  rw [commandEvent_taken c judge h hl, windowStep_closes hc]

/-! ### Everything a command event can do -/

/-- What a COMMAND frame at the Cab Port can do to the state before ATTN is driven: nothing, a latched condition, a
forwarding, a command taken, or a broadcast taken and forwarded. -/
inductive CommandEffect (f : Frame) (judge : State → Answer) (s : State) : State → Prop where
  /-- The frame is discarded. -/
  | discarded : CommandEffect f judge s s
  /-- The frame is too long, so it is bad (R104). -/
  | bad : CommandEffect f judge s (s.latch .crcCab)
  /-- The reply slot is occupied (R117). -/
  | lost : CommandEffect f judge s (s.latch .commandLost)
  /-- The frame goes to another address (R109). -/
  | forwarded : CommandEffect f judge s (s.forwardCrane f)
  /-- The Command Unit takes the command. -/
  | taken (reading : s.store.reading = false) (pending : s.unit.lineResetPending = false) (slot : s.unit.replySlot = none)
      (addressed : (s.router.link = .linked ∧ f.dest = s.router.nodeAddress)
        ∨ (s.router.link = .dark ∧ commandOfPayload f.payload = some .assignAddress)) :
      CommandEffect f judge s (takeCommand f judge s)
  /-- The Command Unit takes the broadcast (R111). -/
  | broadcast (reading : s.store.reading = false) (linked : s.router.link = .linked)
      (pending : s.unit.lineResetPending = false) (permitted : permittedBroadcast f.payload = true) :
      CommandEffect f judge s ((judge (s.windowStep f.payload)).state.forwardCrane f)

/-- A command handed over does one of the things above. -/
theorem handCommand_effect {f : Frame} {judge : State → Answer} {s : State} (hr : s.store.reading = false)
    (ha : (s.router.link = .linked ∧ f.dest = s.router.nodeAddress)
      ∨ (s.router.link = .dark ∧ commandOfPayload f.payload = some .assignAddress)) :
    CommandEffect f judge s (handCommand f judge s) := by
  unfold handCommand
  split
  · exact .discarded
  · split
    · exact .lost
    · next hp hs => exact .taken hr (by simpa using hp) (by simpa using hs) ha

/-- A COMMAND frame at the Cab Port does one of the things above. -/
theorem cabPort_command_effect (f : Frame) (judge : State → Answer) (s : State) :
    CommandEffect f judge s (cabPort f (routeCommand f judge) s) := by
  unfold cabPort
  split
  · exact .bad
  · split
    · exact .discarded
    · next hr =>
      have hr : s.store.reading = false := by simpa using hr
      unfold routeCommand
      split
      · next hk =>
        split
        · next h => exact handCommand_effect hr (.inr ⟨hk, h.2.1⟩)
        · exact .discarded
      · next hk =>
        split
        · next h => exact handCommand_effect hr (.inl ⟨hk, h⟩)
        · split
          · unfold takeBroadcast
            split
            · next h =>
              obtain ⟨h1, h2⟩ := Bool.and_eq_true_iff.mp h
              exact .broadcast hr hk (by simpa using h2) h1
            · exact .forwarded
          · exact .forwarded

end Sys2Proof.Machine
end

