-- ==== Sys2Proof/Laws/Blocks.lean ====
section
/-! SUPPORT. What each shared operation of the blocks can do, said once: the cases of the operations that branch, and the
fields they write. -/

namespace Sys2Proof.Machine

/-! ### Queues -/

/-- A frame joins the crane-bound queue or is dropped (R114). -/
theorem State.forwardCrane_cases (f : Frame) (s : State) :
    (s.line.craneQueue.length < queueLimit
        ∧ s.forwardCrane f = { s with line := { s.line with craneQueue := s.line.craneQueue ++ [f] } })
      ∨ (queueLimit ≤ s.line.craneQueue.length ∧ s.forwardCrane f = s.latch .fwdDrop) := by
  unfold State.forwardCrane
  split
  · next h => exact .inl ⟨h, rfl⟩
  · next h => exact .inr ⟨Nat.not_lt.mp h, rfl⟩

/-- A forwarded frame joins the cab-bound queue or is dropped (R115). -/
theorem State.forwardCab_cases (f : Frame) (s : State) :
    (s.line.cabQueue.length < queueLimit
        ∧ s.forwardCab f = { s with line := { s.line with cabQueue := s.line.cabQueue ++ [⟨f, .forwarded⟩] } })
      ∨ (queueLimit ≤ s.line.cabQueue.length ∧ s.forwardCab f = s.latch .fwdDrop) := by
  unfold State.forwardCab
  split
  · next h => exact .inl ⟨h, rfl⟩
  · next h => exact .inr ⟨Nat.not_lt.mp h, rfl⟩

/-- A reply joins the cab-bound queue or waits in the slot (R115, R116). -/
theorem State.placeReply_cases (r : OutFrame) (s : State) :
    (s.line.cabQueue.length < queueLimit
        ∧ s.placeReply r = { s with line := { s.line with cabQueue := s.line.cabQueue ++ [r] } })
      ∨ (queueLimit ≤ s.line.cabQueue.length
        ∧ s.placeReply r = { s with unit := { s.unit with replySlot := some r } }) := by
  unfold State.placeReply
  split
  · next h => exact .inl ⟨h, rfl⟩
  · next h => exact .inr ⟨Nat.not_lt.mp h, rfl⟩

/-- A waiting reply joins where there is room; otherwise nothing happens (R116). -/
theorem State.replyJoins_cases (s : State) :
    s.replyJoins = s
      ∨ ∃ r, s.unit.replySlot = some r ∧ s.line.cabQueue.length < queueLimit
        ∧ s.replyJoins = { s with
            line := { s.line with cabQueue := s.line.cabQueue ++ [r] }
            unit := { s.unit with replySlot := none } } := by
  unfold State.replyJoins
  split
  · next r h =>
    split
    · next hl => exact .inr ⟨r, h, hl, rfl⟩
    · exact .inl rfl
  · exact .inl rfl

/-! ### Table Banks -/

/-- What a swap writes into the banks (R145). -/
@[simp] theorem State.swap_banks (s : State) : s.swap.banks = ⟨s.banks.staging, s.banks.staging, true, .none⟩ := by
  simp [State.swap]

/-- What a swap does to the open set (R131). -/
@[simp] theorem State.swap_openSet (s : State) :
    s.swap.openSet = openSetAfterSwap s.banks.active s.banks.staging s.openSet := by simp [State.swap]

/-- What a swap does to the Lift Unit (R84). -/
@[simp] theorem State.swap_lift (s : State) :
    s.swap.lift = { s.lift with search := searchAfterSwap s.banks.active s.banks.staging s.lift.search } := by
  simp [State.swap]

/-- What a swap does to the Tally Unit (R94). -/
@[simp] theorem State.swap_tally (s : State) :
    s.swap.tally = { s.tally with selected := selectionAfterSwap s.banks.staging s.tally.selected } := by
  simp [State.swap]

/-- SWAP_DONE is latched by a swap, and what was latched stays (R145). -/
theorem State.swap_isLatched (s : State) (k : Condition) (h : s.isLatched k = true ∨ k = .swapDone) :
    s.swap.isLatched k = true := by
  simp only [State.swap, State.judgeBunk, State.isLatched_judge, State.isLatched_latch]
  rcases h with h | h
  · have : ({ s with
        banks := { s.banks with active := s.banks.staging, activeValid := true, commit := .none }
        openSet := openSetAfterSwap s.banks.active s.banks.staging s.openSet
        lift := { s.lift with search := searchAfterSwap s.banks.active s.banks.staging s.lift.search }
        tally := { s.tally with
          selected := selectionAfterSwap s.banks.staging s.tally.selected } } : State).isLatched k = true := h
    rw [this]; rfl
  · subst h; simp

/-- A pending commit swaps where the tests hold; otherwise nothing happens (R144). -/
theorem State.attemptSwap_cases (s : State) :
    s.attemptSwap = s ∨ (s.banks.commit = .pending ∧ s.swapAllowed = true ∧ s.attemptSwap = s.swap) := by
  unfold State.attemptSwap
  split
  · next h =>
    split
    · next h' => exact .inr ⟨h, h', rfl⟩
    · exact .inl rfl
  · exact .inl rfl

/-- Without a pending commit an attempt does nothing. -/
theorem State.attemptSwap_none {s : State} (h : s.banks.commit ≠ .pending) : s.attemptSwap = s := by
  simp [State.attemptSwap, h]

/-- The tests of an attempt, one by one (R144). -/
theorem State.swapAllowed_iff (s : State) :
    s.swapAllowed = true ↔
      s.lift.state = .empty ∧ s.guard.quiet = true ∧ s.store.state ≠ .storing
        ∧ (s.mapsDiffer = false ∨ s.guard.state = .blocked ∨ s.guard.state = .park)
        ∧ s.banks.staging.setting .valveAddress ≠ s.router.nodeAddress.toNat := by
  simp [State.swapAllowed, State.restPoint, State.mapsMayChange, and_assoc]

/-! ### Envelope Guard -/

/-- A state entered from itself is no change (R37). -/
theorem State.enterGuard_same {s : State} {g : GuardState} (h : s.guard.state = g) (e : Bool) : s.enterGuard g e = s := by
  simp [State.enterGuard, h]

/-- The guard after a change of state (R37, R38). -/
theorem State.enterGuard_guard {s : State} {g : GuardState} (h : s.guard.state ≠ g) (e : Bool) :
    (s.enterGuard g e).guard = s.guard.enter g (watchAfterEntry s.banks.active g e s.guard.watch) := by
  simp [State.enterGuard, h]

/-- The guard state after an entry. -/
@[simp] theorem State.enterGuard_state (s : State) (g : GuardState) (e : Bool) : (s.enterGuard g e).guard.state = g := by
  by_cases h : s.guard.state = g
  · rw [State.enterGuard_same h, h]
  · rw [State.enterGuard_guard h]; rfl

/-! ### Lift Unit -/

/-- Step 2 of the end of a lift (R79). -/
theorem State.endLift_lift (s : State) : s.endLift.lift = s.lift.ended := rfl

/-- A recorded end leaves the lift ended as well (R79). -/
@[simp] theorem State.endLiftRecorded_lift (s : State) (k : LiftKind) (r : Option Cell) :
    (s.endLiftRecorded k r).lift = s.lift.ended := by
  unfold State.endLiftRecorded; split <;> simp [State.endLift]

/-- Abandoning leaves the lift state EMPTY (R80). -/
theorem State.abandonLift_state (s : State) : s.abandonLift.lift.state = .empty := by
  unfold State.abandonLift
  split <;> simp_all [State.endLift, LiftUnit.ended]

/-- A search that fails is NONE; without one nothing happens (R85). -/
theorem State.failSearch_cases (s : State) :
    (s.lift.search = none ∧ s.failSearch = s)
      ∨ (s.lift.search.isSome ∧ s.failSearch = ({ s with lift := { s.lift with search := none } }).latch .tareFailed) := by
  unfold State.failSearch
  split
  · next h => exact .inr ⟨by simp [h], rfl⟩
  · next h => exact .inl ⟨h, rfl⟩

/-! ### Envelope Guard: DEMAND frames -/

/-- Writing the flags leaves the guard state. -/
@[simp] theorem State.writeFlags_state (s : State) (out : List Filtered) :
    (s.writeFlags out).guard.state = s.guard.state := by unfold State.writeFlags; split <;> rfl

/-- Whether a frame is still is not changed by its own flags and conditions. -/
theorem State.allStill_written (s : State) (out : List Filtered) :
    ((s.writeFlags out).latchZoneStop out).allStill out = s.allStill out := by
  simp [State.allStill, State.motionSlot]

/-- The Envelope Guard's work on a DEMAND frame by guard state: discarded in BLOCKED and PARK, filtered otherwise (R52). -/
theorem State.guardDemand_eq (s : State) (f : Frame) :
    s.guardDemand f
      = if s.guard.state = .blocked ∨ s.guard.state = .park then s
        else ((s.writeFlags (s.filterDemands (demandsOf f.payload))).latchZoneStop
          (s.filterDemands (demandsOf f.payload))).joinFiltered f (s.filterDemands (demandsOf f.payload)) := by
  cases hg : s.guard.state <;> simp only [State.guardDemand, hg] <;> simp

/-- A filtered frame joins and writes the quiet flag, or is dropped (R60, R114, R144). -/
theorem State.joinFiltered_eq (s : State) (f : Frame) (out : List Filtered) :
    s.joinFiltered f out
      = if s.line.craneQueue.length < queueLimit then
          (if s.allStill out = true then
            ({ s with
              line := { s.line with craneQueue := s.line.craneQueue ++ [filteredFrame f out] }
              guard := { s.guard with quiet := s.allStill out } } : State).attemptSwap
          else { s with
            line := { s.line with craneQueue := s.line.craneQueue ++ [filteredFrame f out] }
            guard := { s.guard with quiet := s.allStill out } })
        else s.latch .fwdDrop := by
  simp only [State.joinFiltered, State.forwardCrane]
  by_cases h : s.line.craneQueue.length < queueLimit <;> simp only [h, if_true, if_false]

/-- The pair count of a SAMPLE payload (R126). -/
theorem pairCount_eq_some (b : Bytes) (n : Nat) : pairCount b = some n ↔ 1 ≤ n ∧ n ≤ 6 ∧ b.length = 1 + 3 * n := by
  unfold pairCount; split <;> simp <;> omega

/-! ### Every event -/

/-- Driving ATTN is idempotent and is the last thing an event does. -/
@[simp] theorem State.driveAttn_attn (s : State) : s.driveAttn.conditions.attn = s.attnLevel := rfl

/-- An event always has a next state. -/
theorem finish_next (s : State) : finish s = .next s.driveAttn := rfl

end Sys2Proof.Machine
end

