-- ==== Sys2Proof/Laws/Geometry.lean ====
section
/-! SUPPORT. How near the fixed-point cosine and sine of the Geometry Unit lie to the exact ones: the fixed-point values of
successive angles are rotations of each other by 0.05°, and the first of them is near. -/

namespace Sys2Proof.Machine

/-- Whether the fixed-point values at `h` + 1 are those at `h` rotated by 0.05°, to within ten units of the last decimal. -/
def rotatesAt (h : Nat) : Bool :=
  let c := fixedCos h * fixedCos 1
  let s := fixedSin h * fixedSin 1
  let c' := fixedCos (h + 1) * fixedOne
  let x := fixedSin h * fixedCos 1 + fixedCos h * fixedSin 1
  let s' := fixedSin (h + 1) * fixedOne
  let tolerance := 10 * fixedOne
  c' + s ≤ c + tolerance && c ≤ c' + s + tolerance && s' ≤ x + tolerance && x ≤ s' + tolerance
    && fixedCos h ≤ fixedOne && fixedSin h ≤ fixedOne

/-- The fixed-point values rotate over the whole quadrant. -/
theorem rotatesAt_all : (List.range 1800).all rotatesAt = true := by decide +kernel

/-- The fixed-point cosine and sine of `h` units of 0.05° as a point of the plane. -/
noncomputable def fixedPoint (h : Nat) : ℂ := ⟨(fixedCos h : ℝ) / 10 ^ 18, (fixedSin h : ℝ) / 10 ^ 18⟩

/-- The point at an angle of `h` units of 0.05° on the unit circle. -/
noncomputable def exactPoint (h : Nat) : ℂ := Complex.exp (((h : ℝ) * (Real.pi / 3600) : ℝ) * Complex.I)

/-- The exact point has norm 1. -/
theorem exactPoint_norm (h : Nat) : ‖exactPoint h‖ = 1 := Complex.norm_exp_ofReal_mul_I _

/-- The exact points rotate. -/
theorem exactPoint_succ (h : Nat) : exactPoint (h + 1) = exactPoint h * exactPoint 1 := by
  rw [exactPoint, exactPoint, exactPoint, ← Complex.exp_add]
  congr 1
  push_cast
  ring

/-- The parts of the exact point. -/
theorem exactPoint_parts (h : Nat) :
    (exactPoint h).re = Real.cos ((h : ℝ) * (Real.pi / 3600)) ∧ (exactPoint h).im = Real.sin ((h : ℝ) * (Real.pi / 3600)) :=
  ⟨Complex.exp_ofReal_mul_I_re _, Complex.exp_ofReal_mul_I_im _⟩

/-- A point whose parts are small has a small norm. -/
theorem norm_le_of_parts {z : ℂ} {a b : ℝ} (h1 : |z.re| ≤ a) (h2 : |z.im| ≤ b) : ‖z‖ ≤ a + b :=
  (Complex.norm_le_abs_re_add_abs_im z).trans (add_le_add h1 h2)

/-- The first fixed-point point is near the exact one. -/
theorem fixedPoint_one : ‖fixedPoint 1 - exactPoint 1‖ ≤ 1 / 10 ^ 13 := by
  have h1 : (3.14159265358979323846 / 3600 : ℝ) ≤ Real.pi / 3600 := by linarith [Real.pi_gt_d20]
  have h2 : Real.pi / 3600 ≤ (3.14159265358979323847 / 3600 : ℝ) := by linarith [Real.pi_lt_d20]
  have hc : fixedCos 1 = 999999619228249432 := by decide +kernel
  have hs : fixedSin 1 = 872664515235148 := by decide +kernel
  obtain ⟨ec, es⟩ := exactPoint_parts 1
  have h0 : (0 : ℝ) ≤ Real.pi / 3600 := by positivity
  rw [Nat.cast_one, one_mul] at ec es
  generalize Real.pi / 3600 = x at *
  have hx : |x| ≤ 1 := by rw [abs_of_nonneg h0]; linarith
  obtain ⟨bc, bc'⟩ := abs_le.mp (Real.cos_bound hx)
  obtain ⟨bs, bs'⟩ := abs_le.mp (Real.sin_bound hx)
  rw [abs_of_nonneg h0] at bc bc' bs bs'
  have l2 := pow_le_pow_left₀ (by norm_num) h1 2
  have u2 := pow_le_pow_left₀ h0 h2 2
  have l3 := pow_le_pow_left₀ (by norm_num) h1 3
  have u3 := pow_le_pow_left₀ h0 h2 3
  have u4 := pow_le_pow_left₀ h0 h2 4
  have u5 := pow_le_pow_left₀ h0 h2 5
  norm_num at l2 u2 l3 u3 u4 u5 h1 h2
  have p1 : |(fixedPoint 1 - exactPoint 1).re| ≤ 6 / 10 ^ 14 := by
    rw [Complex.sub_re, ec, fixedPoint, hc, abs_le]
    constructor <;> norm_num <;> linarith
  have p2 : |(fixedPoint 1 - exactPoint 1).im| ≤ 4 / 10 ^ 14 := by
    rw [Complex.sub_im, es, fixedPoint, hs, abs_le]
    constructor <;> norm_num <;> linarith
  refine (norm_le_of_parts p1 p2).trans (by norm_num)

/-- The fixed-point points rotate, to within ten units of the last decimal in each part, and lie in the unit square. -/
theorem fixedPoint_succ {h : Nat} (hh : h < 1800) :
    ‖fixedPoint (h + 1) - fixedPoint h * fixedPoint 1‖ ≤ 2 / 10 ^ 17 ∧ ‖fixedPoint h‖ ≤ 2 := by
  have r := List.all_eq_true.mp rotatesAt_all h (List.mem_range.mpr hh)
  simp only [rotatesAt, Bool.and_eq_true, fixedOne] at r
  obtain ⟨⟨⟨⟨⟨r1, r2⟩, r3⟩, r4⟩, r5⟩, r6⟩ := r
  have q1 :
      (fixedCos (h + 1) : ℝ) * 1000000000000000000 + fixedSin h * fixedSin 1
        ≤ fixedCos h * fixedCos 1 + 10 * 1000000000000000000 := by
    exact_mod_cast of_decide_eq_true r1
  have q2 :
      (fixedCos h : ℝ) * fixedCos 1
        ≤ fixedCos (h + 1) * 1000000000000000000 + fixedSin h * fixedSin 1 + 10 * 1000000000000000000 := by
    exact_mod_cast of_decide_eq_true r2
  have q3 :
      (fixedSin (h + 1) : ℝ) * 1000000000000000000
        ≤ fixedSin h * fixedCos 1 + fixedCos h * fixedSin 1 + 10 * 1000000000000000000 := by
    exact_mod_cast of_decide_eq_true r3
  have q4 :
      (fixedSin h : ℝ) * fixedCos 1 + fixedCos h * fixedSin 1
        ≤ fixedSin (h + 1) * 1000000000000000000 + 10 * 1000000000000000000 := by
    exact_mod_cast of_decide_eq_true r4
  have q5 : (fixedCos h : ℝ) ≤ 1000000000000000000 := by exact_mod_cast of_decide_eq_true r5
  have q6 : (fixedSin h : ℝ) ≤ 1000000000000000000 := by exact_mod_cast of_decide_eq_true r6
  constructor
  · have p1 : |(fixedPoint (h + 1) - fixedPoint h * fixedPoint 1).re| ≤ 1 / 10 ^ 17 := by
      simp only [fixedPoint, Complex.sub_re, Complex.mul_re]
      rw [abs_le]; constructor <;> linarith
    have p2 : |(fixedPoint (h + 1) - fixedPoint h * fixedPoint 1).im| ≤ 1 / 10 ^ 17 := by
      simp only [fixedPoint, Complex.sub_im, Complex.mul_im]
      rw [abs_le]; constructor <;> linarith
    exact (norm_le_of_parts p1 p2).trans (by norm_num)
  · have p1 : |(fixedPoint h).re| ≤ 1 := by
      rw [fixedPoint, abs_of_nonneg (by positivity)]; exact div_le_one_of_le₀ (by linarith) (by positivity)
    have p2 : |(fixedPoint h).im| ≤ 1 := by
      rw [fixedPoint, abs_of_nonneg (by positivity)]; exact div_le_one_of_le₀ (by linarith) (by positivity)
    exact (norm_le_of_parts p1 p2).trans (by norm_num)

/-- The fixed-point point is near the exact one at every angle of the quadrant. -/
theorem fixedPoint_near {h : Nat} (hh : h ≤ 1800) : ‖fixedPoint h - exactPoint h‖ ≤ ((h : ℝ) + 1) * (3 / 10 ^ 13) := by
  induction h with
  | zero =>
    have h0 : fixedPoint 0 = exactPoint 0 := by
      have hc : fixedCos 0 = 10 ^ 18 := by decide +kernel
      have hs : fixedSin 0 = 0 := by decide +kernel
      rw [fixedPoint, hc, hs, exactPoint]
      apply Complex.ext <;> norm_num
    rw [h0, sub_self, norm_zero]; positivity
  | succ h ih =>
    have e := ih (by omega)
    obtain ⟨r, b⟩ := fixedPoint_succ (show h < 1800 by omega)
    have split : fixedPoint (h + 1) - exactPoint (h + 1)
        = (fixedPoint (h + 1) - fixedPoint h * fixedPoint 1) + fixedPoint h * (fixedPoint 1 - exactPoint 1)
          + (fixedPoint h - exactPoint h) * exactPoint 1 := by rw [exactPoint_succ]; ring
    have n1 := norm_add_le ((fixedPoint (h + 1) - fixedPoint h * fixedPoint 1) + fixedPoint h * (fixedPoint 1 - exactPoint 1))
      ((fixedPoint h - exactPoint h) * exactPoint 1)
    have n2 := norm_add_le (fixedPoint (h + 1) - fixedPoint h * fixedPoint 1) (fixedPoint h * (fixedPoint 1 - exactPoint 1))
    rw [norm_mul, exactPoint_norm, mul_one] at n1
    rw [norm_mul] at n2
    have n3 : ‖fixedPoint h‖ * ‖fixedPoint 1 - exactPoint 1‖ ≤ 2 * (1 / 10 ^ 13) :=
      mul_le_mul b fixedPoint_one (norm_nonneg _) (by norm_num)
    rw [split]
    push_cast
    linarith

/-- The fixed-point cosine and sine of an angle of the quadrant are within 10⁻⁹ of the exact ones. -/
theorem fixedCos_near {h : Nat} (hh : h ≤ 1800) :
    |(fixedCos h : ℝ) / 10 ^ 18 - Real.cos ((h : ℝ) * (Real.pi / 3600))| ≤ 1 / 10 ^ 9
      ∧ |(fixedSin h : ℝ) / 10 ^ 18 - Real.sin ((h : ℝ) * (Real.pi / 3600))| ≤ 1 / 10 ^ 9 := by
  have n := fixedPoint_near hh
  have hb : ((h : ℝ) + 1) * (3 / 10 ^ 13) ≤ 1 / 10 ^ 9 := by
    have : (h : ℝ) ≤ 1800 := by exact_mod_cast hh
    linarith
  obtain ⟨ec, es⟩ := exactPoint_parts h
  have re := (Complex.abs_re_le_norm (fixedPoint h - exactPoint h)).trans (n.trans hb)
  have im := (Complex.abs_im_le_norm (fixedPoint h - exactPoint h)).trans (n.trans hb)
  rw [Complex.sub_re, ec] at re
  rw [Complex.sub_im, es] at im
  exact ⟨re, im⟩

end Sys2Proof.Machine
end

