-- ==== Sys2Proof/Laws/Tables.lean ====
section
/-! SUPPORT. Lengths and entries of a Table Set and of an image under the operations that write them. -/

namespace Sys2Proof.Machine

/-! ### Entries -/

/-- The tables lie inside the 409 bytes, one after the other (R170). -/
theorem TableId.base_fits (t : TableId) : t.base + t.entries * t.entrySize ≤ tableSetSize := by cases t <;> decide

/-- An entry's bytes lie inside its table. -/
theorem TableId.entry_fits {t : TableId} {i : Nat} (h : i < t.entries) :
    t.base + i * t.entrySize + t.entrySize ≤ t.base + t.entries * t.entrySize := by
  have := Nat.mul_le_mul_right t.entrySize (Nat.succ_le_of_lt h)
  rw [Nat.succ_mul] at this
  omega

/-- Entries have at least one byte. -/
theorem TableId.entrySize_pos (t : TableId) : 0 < t.entrySize := by cases t <;> decide

/-- Two tables do not overlap: one ends before the other begins (R170). -/
theorem TableId.disjoint {t u : TableId} (h : t ≠ u) :
    t.base + t.entries * t.entrySize ≤ u.base ∨ u.base + u.entries * u.entrySize ≤ t.base := by
  cases t <;> cases u <;> first | exact absurd rfl h | decide

/-- Writing an entry keeps the length. -/
@[simp] theorem TableSet.setEntry_length (b : TableSet) (t : TableId) (i : Nat) (e : Bytes)
    (hb : b.bytes.length = tableSetSize) : (b.setEntry t i e).bytes.length = tableSetSize := by
  unfold TableSet.setEntry
  split
  · next h =>
    have h1 := TableId.entry_fits h.1
    have h2 := TableId.base_fits t
    simp only [List.length_append, List.length_take, List.length_drop, hb, h.2]
    omega
  · exact hb

/-- Byte `k` of a Table Set after an entry is written: the entry's byte inside the entry, the old byte elsewhere. -/
theorem TableSet.setEntry_getElem? (b : TableSet) (t : TableId) (i : Nat) (e : Bytes) (hb : b.bytes.length = tableSetSize)
    (hi : i < t.entries) (he : e.length = t.entrySize) (k : Nat) :
    (b.setEntry t i e).bytes[k]?
      = if t.base + i * t.entrySize ≤ k ∧ k < t.base + i * t.entrySize + t.entrySize then e[k - (t.base + i * t.entrySize)]?
        else b.bytes[k]? := by
  have h1 := TableId.entry_fits hi
  have h2 := TableId.base_fits t
  have e1 : (b.bytes.take (t.base + i * t.entrySize)).length = t.base + i * t.entrySize := by
    rw [List.length_take, hb]; omega
  simp only [TableSet.setEntry, hi, he, and_self, if_true, List.append_assoc]
  rw [List.getElem?_append, e1]
  split
  · next h => rw [if_neg (by omega), List.getElem?_take_of_lt h]
  · next h =>
    rw [List.getElem?_append, he]
    split
    · next h' => rw [if_pos (by omega)]
    · next h' => rw [if_neg (by omega), List.getElem?_drop]; congr 1; omega

/-- An entry written replaces that entry of its table and no other entry. -/
theorem TableSet.entry_setEntry (b : TableSet) (t u : TableId) (i j : Nat) (e : Bytes) (hb : b.bytes.length = tableSetSize)
    (hi : i < t.entries) (hj : j < u.entries) (he : e.length = t.entrySize) :
    (b.setEntry t i e).entry u j = if u = t ∧ j = i then e else b.entry u j := by
  apply List.ext_getElem?
  intro k
  have f1 := TableId.entry_fits hi
  have f2 := TableId.entry_fits hj
  have g1 := TableId.base_fits t
  have g2 := TableId.base_fits u
  simp only [TableSet.entry, List.getElem?_take, List.getElem?_drop]
  rw [TableSet.setEntry_getElem? b t i e hb hi he]
  by_cases hk : k < u.entrySize
  · simp only [hk, if_true]
    by_cases hu : u = t
    · subst hu
      by_cases hji : j = i
      · subst hji
        rw [if_pos (by omega), if_pos ⟨rfl, rfl⟩]; congr 1; omega
      · have hsep : j * u.entrySize + u.entrySize ≤ i * u.entrySize ∨ i * u.entrySize + u.entrySize ≤ j * u.entrySize := by
          rcases Nat.lt_or_gt_of_ne hji with h | h
          · left; have := Nat.mul_le_mul_right u.entrySize (Nat.succ_le_of_lt h); rwa [Nat.succ_mul] at this
          · right; have := Nat.mul_le_mul_right u.entrySize (Nat.succ_le_of_lt h); rwa [Nat.succ_mul] at this
        rw [if_neg (by omega), if_neg (by simp [hji])]
        simp [hk]
    · rw [if_neg (by have := TableId.disjoint hu; omega), if_neg (by simp [hu])]
      simp [hk]
  · simp only [hk, if_false]
    split
    · next h =>
      obtain ⟨rfl, _⟩ := h
      symm; rw [List.getElem?_eq_none_iff, he]; omega
    · simp; omega

/-- Writing entries at the pointer keeps the length. -/
theorem writeEntries_length (es : List Bytes) (b : TableSet) (w : Window) (hb : b.bytes.length = tableSetSize) :
    (writeEntries es b w).1.bytes.length = tableSetSize := by
  induction es generalizing b w with
  | nil => exact hb
  | cons e es ih => exact ih _ _ (TableSet.setEntry_length b _ _ e hb)

/-! ### The image -/

/-- The factory defaults have the length of a Table Set (R136). -/
theorem factoryDefaults_length : factoryDefaults.bytes.length = tableSetSize := by decide +kernel

/-- Changing bytes of an image keeps its length. -/
@[simp] theorem changeBytes_length (image : Bytes) (cs : List ByteChange) : (changeBytes image cs).length = image.length := by
  induction cs generalizing image with
  | nil => rfl
  | cons c cs ih => simpa [changeBytes] using ih (image.set c.offset c.value)

/-- An image of a Table Set and a check has 411 bytes. -/
theorem imageOf_length (b : TableSet) (x : BitVec 16) (hb : b.bytes.length = tableSetSize) :
    (imageOf b x).length = tableSetSize + 2 := by simp [imageOf, bytes16, hb]

/-- The Table Set of an image made of it and a check. -/
theorem imageTables_imageOf (b : TableSet) (x : BitVec 16) (hb : b.bytes.length = tableSetSize) :
    imageTables (imageOf b x) = b := by
  simp [imageTables, imageOf, ← hb]

/-- The check of an image made of a Table Set and it. -/
theorem imageCheck_imageOf (b : TableSet) (x : BitVec 16) (hb : b.bytes.length = tableSetSize) :
    imageCheck (imageOf b x) = x := by
  have h0 : (imageOf b x).getD tableSetSize 0 = byteOf (x.toNat / 256) := by
    simp [imageOf, bytes16, List.getD_eq_getElem?_getD, hb]
  have h1 : (imageOf b x).getD (tableSetSize + 1) 0 = byteOf x.toNat := by
    simp [imageOf, bytes16, List.getD_eq_getElem?_getD, hb]
  apply BitVec.eq_of_toNat_eq
  have := x.isLt
  simp only [imageCheck, u16At, u8At, h0, h1, byteOf, BitVec.toNat_ofNat]
  omega

/-- What a store writes matches (R149, R151). -/
theorem imageMatches_written (b : TableSet) (hb : b.bytes.length = tableSetSize) : imageMatches (writtenImage b) = true := by
  simp [imageMatches, writtenImage, imageCheck_imageOf b _ hb, imageTables_imageOf b _ hb]

/-- The check that a store writes over the old one does not match (R151). -/
theorem spoiledCheck_ne (draw : Nat) (b : TableSet) : spoiledCheck draw b ≠ crc16 b.bytes := by
  unfold spoiledCheck
  split
  · next h =>
    intro h'
    rw [h] at h'
    have := congrArg BitVec.toNat h'
    rw [BitVec.toNat_add] at this
    have := (crc16 b.bytes).isLt
    simp at *
  · next h => exact h

/-- The image of a started or cut-off store does not match (R151, R153). -/
theorem imageMatches_spoiled (draw : Nat) (b : TableSet) (hb : b.bytes.length = tableSetSize) :
    imageMatches (imageOf b (spoiledCheck draw b)) = false := by
  simp [imageMatches, imageCheck_imageOf b _ hb, imageTables_imageOf b _ hb, spoiledCheck_ne draw b]

/-- The free Table Set of a cut-off store has the length of one (R153). -/
theorem cutStoreTables_length (draw : Nat) : (cutStoreTables draw).bytes.length = tableSetSize := by simp [cutStoreTables]

end Sys2Proof.Machine
end

