-- ==== Sys2Proof/Tests/Slice0.lean ====
section
/-! SUPPORT. The model's own tests: the well-formedness checks refuse, one step of a command does what the spec's worked
examples say, and for every statement with hypotheses a concrete state and operands that meet them (`witness_` followed by
the statement's name). -/

namespace Sys2Proof.Tests

open Sys2Proof Sys2Proof.Machine

set_option Elab.async false

/-! ### Small states -/

/-- Bytes from numbers. -/
def bs (l : List Nat) : Bytes := l.map byteOf

/-- A class record: rule, bunk flag, cap, derate. -/
def classBytes (rule bunk cap derate : Nat) : Bytes := bs [rule + 4 * bunk, derate] ++ bytes16 cap

/-- The Table Set of the spec's worked examples, with weigh window 8 and the Channel Map's sources at 7. -/
def tables : TableSet :=
  ⟨bs (0x40 :: List.replicate 12 0) ++ bs [0x51, 0, 0x23, 0x20, 0, 0x22, 0, 0, 0, 0x20, 0, 0x23, 0x21]
    ++ bs (0x50 :: List.replicate 12 0) ++ bs (0x56 :: List.replicate 12 0)
    ++ bs [0x56, 0, 0, 0, 0, 0x25, 0x24, 0, 0x25, 0x26, 0, 0, 0]
    ++ classBytes 0 0 1000 100 ++ classBytes 1 0 0 100 ++ classBytes 0 1 600 100 ++ classBytes 0 0 400 100
    ++ classBytes 1 0 0 100 ++ classBytes 0 0 300 80 ++ classBytes 0 0 800 90 ++ classBytes 0 0 1000 100
    ++ bs [90, 100, 100, 100, 100, 100, 100, 100, 100, 100, 100, 85] ++ bs (List.replicate 24 100)
    ++ bs [55, 60, 70, 80, 90, 95, 100, 95, 90, 80, 70, 60] ++ bs (List.replicate 24 100)
    ++ ([9000, 9000, 8800, 8400, 7600, 6800, 6000, 5300, 4700, 4200, 3800, 3460, 3150, 2900, 2650, 2400].map bytes16).flatten
    ++ ((List.range 8).map (fun i => bs [7, i, 0, 0, 4, 0])).flatten
    ++ bs [1, 1] ++ bytes16 150 ++ bs [2, 255] ++ bytes16 50 ++ bs [3, 1] ++ bytes16 50 ++ bs [4, 1] ++ bytes16 200
    ++ bs [5, 1, 0, 0, 6, 1, 0, 0, 7, 1, 0, 0, 0, 1, 0, 0]
    ++ ((List.range 12).map (fun i => bs [if i = 0 ∨ i = 2 then 1 else 0, 65, 48, 48 + i % 10])).flatten
    ++ ([14000, 600, 300, 60, 3, 8, 15, 5, 10, 50, 900, 100, 250, 100, 4200, 3300, 320, 33554431, 900, 9].map bytes32).flatten⟩

/-- A LINKED machine at address 4 with valid tables, its image read over. -/
def linked : State :=
  { State.reset with
    router := ⟨4, .linked, true⟩
    banks := ⟨tables, tables, true, .none⟩
    store := ⟨writtenImage tables, true, .idle, false⟩
    conditions := ⟨0, false⟩ }

/-- The same machine DARK. -/
def dark : State := { linked with router := ⟨0, .dark, false⟩ }

/-- The same machine in another guard state, with its entry actions. -/
def inGuard (g : GuardState) : State := linked.enterGuard g false

/-- A frame from the cab master to address 4. -/
def cmd (body : List Nat) : Packet := ⟨4, 30, 0, bs body⟩

/-- The state after a command. -/
def after (c : Instr) (s : State) : State :=
  match exec c s with
  | .next t => t
  | .fault _ => s
  | .refused _ => s

/-- The state after some commands in a row. -/
def afterAll (cs : List Instr) (s : State) : State := cs.foldl (fun t c => after c t) s

/-- Result code and data of the newest reply in the cab-bound queue. -/
def lastReply (s : State) : Option Bytes := s.line.cabQueue.getLast?.map (fun r => r.frame.payload.drop 1)

/-- The SAMPLE payloads of one complete set with the given calibrated values (gain 1024). -/
def samples (sequence : Nat) (v : List Int) : List Instr :=
  [.sample ⟨30, 7, 0, byteOf sequence :: ((v.take 4).mapIdx (fun i x => byteOf i :: bytesSigned16 x)).flatten⟩,
   .sample ⟨30, 7, 0, byteOf sequence :: ((v.drop 4).mapIdx (fun i x => byteOf (i + 4) :: bytesSigned16 x)).flatten⟩]

/-- A taken command's machine. -/
theorem linked_takes (body : List Nat) : linked.Takes (cmd body) := ⟨rfl, rfl, rfl, rfl, rfl⟩

/-! ### Well-formedness refuses -/

/-- A command row's body of 28 bytes makes a payload of 29. -/
theorem test_wf_command : (Instr.commit ⟨4, 30, 0, List.replicate 28 0⟩).wf = false := by decide

/-- A frame row's payload of 29 bytes. -/
theorem test_wf_payload : (Instr.demand ⟨9, 30, 0, List.replicate 29 0⟩).wf = false := by decide

/-- UNKNOWN_COMMAND with a known identifier. -/
theorem test_wf_unknown : (Instr.unknownCommand ⟨4, 30, 0, [2]⟩).wf = false := by decide

/-- A reception of no byte. -/
theorem test_wf_reception : (Instr.cranePortFrame []).wf = false := by decide

/-- A change outside the image. -/
theorem test_wf_change : (Instr.nonvolatileContentLoss [⟨411, 0⟩]).wf = false := by decide

/-- Terms that pass each check. -/
theorem test_wf_accepts :
    ([.commit ⟨4, 30, 0, List.replicate 27 0⟩, .demand ⟨9, 30, 0, List.replicate 28 0⟩, .unknownCommand ⟨4, 30, 0, []⟩,
      .cranePortFrame [⟨0, true⟩], .nonvolatileContentLoss [⟨410, 0⟩]] : List Instr).all Instr.wf = true := by decide

/-! ### One step of the commands -/

/-- The test tables are a valid Table Set. -/
theorem test_tables_valid : tables.bytes.length = 409 ∧ validate tables 4 = none := by decide +kernel

/-- The written image of the test tables matches. -/
theorem test_written_matches : imageMatches (writtenImage tables) = true := imageMatches_written tables test_tables_valid.1

/-- The image read of a matching image loads both banks. -/
theorem test_image_read :
    let s := after .imageReadEnd { linked with
      banks := ⟨factoryDefaults, factoryDefaults, false, .none⟩
      store := ⟨writtenImage tables, false, .idle, true⟩ }
    s.banks.active = tables ∧ s.banks.activeValid = true ∧ s.store.imageValid = true := by
  have h : imageTables (writtenImage tables) = tables := imageTables_imageOf tables _ test_tables_valid.1
  simp [after, exec, execImageReadEnd, finish, State.endImageRead, loadedTables, test_written_matches, h]

/-- ASSIGN_ADDRESS on a DARK machine: LINKED at 4, CSO asserted, the reply already from address 4. -/
theorem test_assign_address :
    let s := after (.assignAddress ⟨0, 30, 0, [4]⟩ true) dark
    s.router = ⟨4, .linked, true⟩ ∧ s.line.cabQueue.map (·.frame) = [⟨1, 30, 0, 4, [1, 0]⟩] := by decide +kernel

/-- READ_STATUS answers 26 bytes. -/
theorem test_read_status : ((lastReply (after (.readStatus (cmd [])) linked)).map List.length) = some 27 := by decide +kernel

/-- CLEAR_CONDITIONS clears an event condition and keeps a present cause. -/
theorem test_clear_conditions :
    let s := { linked with conditions := ⟨0x800001#25, false⟩, guard := { linked.guard with forceTest := true } }
    (after (.clearConditions (cmd [1, 255, 255, 255])) s).conditions.latched = 0x800000#25 := by decide +kernel

/-- GUARD_START, then four tip positions: HOLD, then ENFORCE. -/
theorem test_guard_start :
    (after (.guardStart (cmd [])) linked).guard = { linked.guard with state := .hold, ven := true, watch := some 100 } := by
  decide +kernel

/-- GUARD_STOP as a broadcast is carried out and forwarded. -/
theorem test_guard_stop :
    let s := after (.guardStop ⟨31, 30, 0, []⟩) (inGuard .hold)
    s.guard.state = .blocked ∧ s.line.craneQueue.length = 1 ∧ s.line.cabQueue = [] := by decide +kernel

/-- SERVICE_ENTER without and with the key. -/
theorem test_service_enter :
    lastReply (after (.serviceEnter (cmd []) false) linked) = some [26]
      ∧ (after (.serviceEnter (cmd []) true) linked).guard.state = .service := by decide +kernel

/-- SERVICE_EXIT and SKEY_DEASSERT leave SERVICE. -/
theorem test_service_left :
    (after (.serviceExit (cmd [])) (inGuard .service)).guard.state = .blocked
      ∧ (after .skeyDeassert (inGuard .service)).isLatched .serviceKeyLost = true := by decide +kernel

/-- PARK and PARK_EXIT. -/
theorem test_park :
    (after (.park (cmd [])) linked).guard.state = .park
      ∧ (after (.parkExit (cmd [])) (inGuard .park)).guard.state = .hold := by decide +kernel

/-- FORCE_TEST switches VEN off and ATTN on. -/
theorem test_force_test :
    let s := after (.forceTest (cmd [1])) (inGuard .hold)
    s.guard.ven = false ∧ s.conditions.attn = true ∧ s.isLatched .forced = true := by decide +kernel

/-- TABLE_WRITE over two columns of the Assortments, then TABLE_DATA of one entry. -/
theorem test_table_write :
    let s := afterAll [.tableWrite (cmd [7, 0, 0, 3, 4, 0]), .tableData (cmd [1, 90, 90, 90])] linked
    s.banks.staging.entry .assortments 3 = bs [1, 90, 90, 90] ∧ lastReply s = some (bs [0, 0, 4]) := by decide +kernel

/-- TABLE_READ of two Capacity Curve points. -/
theorem test_table_read :
    lastReply (after (.tableRead (cmd [0, 4, 0, 0, 2])) linked) = some (bs [0, 2] ++ bytes16 9000 ++ bytes16 9000) := by
  decide +kernel

/-- `linked` with a changed staging bank that is valid. -/
def changed : State :=
  { linked with banks := { linked.banks with staging := tables.setEntry .settings 10 (bytes32 800) } }

/-- COMMIT of a changed staging bank at the rest point swaps. -/
theorem test_commit : (after (.commit (cmd [])) changed).banks.active.setting .warn = 800 := by decide +kernel

/-- CANCEL_COMMIT of a pending commit. -/
theorem test_cancel_commit :
    let s := { linked with banks := { linked.banks with commit := .pending } }
    (after (.cancelCommit (cmd [])) s).banks.commit = .none := by decide +kernel

/-- STORE from a machine at rest is accepted and runs. -/
theorem test_store :
    lastReply (after (.store (cmd [])) linked) = some [1] ∧ (after (.store (cmd [])) linked).store.state = .storing := by
  decide +kernel

/-- RELOAD_END copies a matching image into staging. -/
theorem test_reload :
    let s := { linked with
      banks := { linked.banks with staging := factoryDefaults }
      store := { linked.store with state := .reloading } }
    (after .reloadEnd s).banks.staging = tables := by
  have h : imageTables (writtenImage tables) = tables := imageTables_imageOf tables _ test_tables_valid.1
  simp [after, exec, execReloadEnd, finish, State.endReload, linked, test_written_matches, h]

/-- RELOAD from a machine at rest is accepted. -/
theorem test_reload_accepted : lastReply (after (.reload (cmd [])) linked) = some [1] := by decide +kernel

/-- SELECT_ASSORTMENT of an enabled and of a disabled one. -/
theorem test_select :
    (after (.selectAssortment (cmd [2])) linked).tally.selected = 2
      ∧ lastReply (after (.selectAssortment (cmd [3])) linked) = some [18] := by decide +kernel

/-- TARE in BLOCKED is accepted, in HOLD refused. -/
theorem test_tare :
    (after (.tare (cmd [])) linked).lift.search = some ⟨[], 0⟩
      ∧ lastReply (after (.tare (cmd [])) (inGuard .hold)) = some [17] := by decide +kernel

/-- FETCH_LIFT on an empty queue, READ_TALLY of the totals, CLEAR_TALLY. -/
theorem test_tally_commands :
    lastReply (after (.fetchLift (cmd [])) linked) = some [22]
      ∧ lastReply (after (.readTally (cmd [12])) linked) = some (0 :: 12 :: List.replicate 20 0)
      ∧ (after (.clearTally (cmd [])) { linked with tally := { linked.tally with workTimer := 7 } }).tally.workTimer = 0 := by
  decide +kernel

/-- LINE_RESET, then the departure of its reply: the tallies stay, the image read begins. -/
theorem test_line_reset :
    let s := afterAll [.lineReset (cmd []), .frameDeparts .cab] linked
    s.store.reading = true ∧ s.router = linked.router ∧ s.unit.lineResetPending = false := by decide +kernel

/-- UNKNOWN_COMMAND is refused with its identifier. -/
theorem test_unknown : lastReply (after (.unknownCommand (cmd [99])) linked) = some [27] := by decide +kernel

/-- The check byte of the spec's READ STATUS frame, and its reception at the Cab Port. -/
theorem test_cab_port_frame :
    (commandFrame .readStatus (cmd [])).checked = bs [4, 30, 1, 2]
      ∧ (lastReply (after (.cabPortFrame (onWire (commandFrame .readStatus (cmd []))) ⟨false, false⟩) linked)).map List.length
          = some 27
      ∧ (after (.cranePortFrame [⟨1, false⟩]) linked).isLatched .crcCrane = true := by decide +kernel

/-- DEMAND in HOLD: every demand 0. -/
theorem test_demand :
    (after (.demand ⟨9, 30, 0, List.replicate 16 7⟩) (inGuard .hold)).line.craneQueue.map (·.payload)
      = [List.replicate 16 0] := by decide +kernel

/-- SYNC and two SAMPLE frames make a tip position: reach, ring and sector of the spec's first example. -/
theorem test_sample :
    let s := afterAll (.sync ⟨30, 30, 0, [5]⟩ :: samples 5 [1450, 600, -600, 1400, 1000, 100, 0, 0]) linked
    s.tip.map (fun t => (t.reach, t.ring, t.sector, t.net)) = some (6800, .within 3, 4, 680) := by decide +kernel

/-- REPLY_JOINS_QUEUE and FRAME_DEPARTS at the Crane Port. -/
theorem test_queues :
    let f : Frame := ⟨4, 9, 0, 30, [1]⟩
    (after .replyJoinsQueue { linked with unit := { linked.unit with replySlot := some ⟨f, .reply⟩ } }).line.cabQueue.length = 1
      ∧ (after (.frameDeparts .crane) { linked with line := ⟨[], [f, f]⟩ }).line.craneQueue.length = 1 := by decide +kernel

/-- LINE_RESET_TAKES_EFFECT and POWER_ON_RESET begin an image read. -/
theorem test_resets :
    (after .lineResetTakesEffect { linked with unit := { linked.unit with lineResetPending := true } }).store.reading = true
      ∧ (after .powerOnReset linked).isLatched .powerOn = true := by decide +kernel

/-- WATCH_EXPIRY in ENFORCE goes to HOLD. -/
theorem test_watch_expiry :
    let s := { linked with guard := { linked.guard with state := .enforce, watch := some 100, ven := true } }
    (after .watchExpiry s).guard.state = .hold ∧ (after .watchExpiry s).isLatched .sampleStale = true := by decide +kernel

/-- PENDING_COMMIT_SWAP at the rest point. -/
theorem test_pending_swap :
    (after .pendingCommitSwap { linked with banks := { linked.banks with commit := .pending } }).banks.commit = .none := by
  decide +kernel

/-- The two ticks, and content loss. -/
theorem test_ticks :
    (after .liftTimerTick { linked with lift := { linked.lift with timerRunning := true } }).lift.timer = 1
      ∧ (after .workTimerTick { inGuard .enforce with guard := { (inGuard .enforce).guard with quiet := false } }).tally.workTimer
          = 1
      ∧ (after (.nonvolatileContentLoss [⟨0, 1⟩]) linked).store.image[0]? = some 1 := by decide +kernel

/-- Cosine factors of rule R4's table. -/
theorem test_cosine :
    [0, 150, 300, 600, 850, 900, 1800, -2050].map cosFactor = [32768, 31651, 28378, 16384, 2856, 0, -32768, -29698] := by
  decide +kernel

/-- Fall azimuth and tilt of the spec's tilt example. -/
theorem test_tilt : tiltOf 235 0 = 235 ∧ bandOf 235 = .within 3 ∧ fallAzimuthOf 235 235 0 = some 1800 := by decide +kernel

/-! ### Every statement's hypotheses are met -/

/-- A frame, a reply and the LINE RESET reply, to fill queues with. -/
def frame : Frame := ⟨1, 30, 0, 4, [1]⟩

/-- `linked` with the given cab-bound queue, reply slot and pending line reset. -/
def queued (queue : List OutFrame) (slot : Option OutFrame) (reset : Bool) : State :=
  { linked with line := ⟨queue, []⟩, unit := ⟨none, slot, reset⟩ }

/-- A tip position in the middle of the working range. -/
def tip : TipPosition :=
  { slew := 1450, a1 := 600, a2 := -600, ext := 1400, reach := 6800, ring := .within 3, sector := 4
    zone := ⟨some 6, .openEntry, 800, false, some 90⟩, tilt := 0, band := .within 0, fallAzimuth := none, fallSector := none
    gross := 1000, net := 680, grip := 700, capacity := some 3000, utilization := some 226 }

/-- A lift context at a grip. -/
def context : LiftContext := ⟨0, .at_ 3 4, false, .within 0, false, false, none, none⟩

/-- `linked` in ENFORCE with a lift in the given state. -/
def lifting (state : LiftState) (c : LiftContext) : State :=
  { linked with
    tip := some tip
    guard := { linked.guard with state := .enforce, watch := some 100, ven := true }
    lift := { linked.lift with grapple := .closed, state := state, context := some c, timerRunning := true } }

/-- The invariants of `linked` that the statements assume. -/
theorem witness_invariants :
    linked.SizesOk ∧ linked.QueuesOk ∧ linked.RouterOk ∧ linked.VenOk ∧ linked.GuardOk ∧ linked.LiftOk ∧ linked.TallyOk
      ∧ linked.CommitOk ∧ linked.ReadingOk ∧ linked.LineResetOk := by
  refine ⟨⟨by decide +kernel, by decide +kernel, ?_, by decide, by decide, (fun o h => nomatch h)⟩, ⟨by decide, by decide, by decide⟩,
    .inr ⟨rfl, by decide, by decide, rfl⟩, by unfold State.VenOk; decide, ?_, ?_, ?_, ?_, (fun h => nomatch h), ?_⟩
  · exact imageOf_length tables _ test_tables_valid.1
  · unfold State.GuardOk; decide
  · refine ⟨by decide, by decide, by decide, by decide, by decide, by decide, by decide, by decide, (fun c h => nomatch h)⟩
  · unfold State.TallyOk; decide
  · unfold State.CommitOk; decide
  · unfold State.LineResetOk; decide

/-- Content of `linked` is validated, and every present cause is latched. -/
theorem witness_content : linked.ValidOk ∧ linked.LatchedOk := by
  have h : validate tables 0 = none := by decide +kernel
  refine ⟨⟨(fun h => nomatch h), fun _ => h, (fun h => nomatch h), fun _ => ?_⟩, fun _ c => ?_⟩
  · rw [show linked.store.image = writtenImage tables from rfl, writtenImage, imageTables_imageOf tables _ test_tables_valid.1]
    exact h
  · have : ∀ c, linked.cause c = false := by intro c; cases c <;> decide +kernel
    rw [this c]; exact fun h => nomatch h

/-- What `linked` measures lies in its ranges, and so does the tip position of the other witnesses. -/
theorem witness_MeasurementsStayInRange :
    linked.ActiveOk ∧ linked.MeasuredOk ∧ linked.SelectionOk ∧ tip.InRange := by
  refine ⟨(fun h => nomatch h), ?_, fun _ => by decide +kernel, ?_⟩
  · exact ⟨(fun o h => nomatch h), (fun t h => nomatch h), by decide, by decide, by decide, by decide, by decide +kernel,
      by decide +kernel, by decide, (fun c h => nomatch h), (fun r h => nomatch h), by decide, (fun w h => nomatch h)⟩
  · simp [TipPosition.InRange, tip, ringOf, sectorOf, bandOf]

/-- The invariants over steps: `linked` steps, with a command in front that changes it. -/
theorem witness_steps :
    ∃ t, step { linked with pending := [.guardStart (cmd [])] } = .next t ∧ t.guard.state = .hold :=
  ⟨_, rfl, by decide +kernel⟩

/-- StepRunsFrontCommand and EveryStepAnswersNextState: an empty queue idles. -/
theorem witness_EveryStepAnswersNextState : State.reset.pending = [] ∧ step State.reset = .next State.reset := ⟨rfl, rfl⟩

/-- AttentionFollowsMaskAndForceTest: both levels of ATTN occur after a command. -/
theorem witness_AttentionFollowsMaskAndForceTest :
    (∃ t, exec .skeyDeassert { linked with conditions := ⟨2, false⟩ } = .next t ∧ t.conditions.attn = true)
      ∧ ∃ t, exec .skeyDeassert { linked with conditions := ⟨0, true⟩ } = .next t ∧ t.conditions.attn = false :=
  ⟨⟨_, rfl, by decide +kernel⟩, ⟨_, rfl, by decide +kernel⟩⟩

/-- PowerOnResetValues: in and out of a store. -/
theorem witness_PowerOnResetValues :
    linked.store.state ≠ .storing ∧ ({ linked.store with state := .storing } : ImageStore).state = .storing := by decide

/-- LineResetPendsUntilItsReplyDeparts: by the departure, and by the event of its own. -/
theorem witness_LineResetPendsUntilItsReplyDeparts :
    (let s := queued [⟨frame, .lineResetReply⟩] none true;
      s.unit.lineResetPending = true ∧ s.line.cabQueue.head?.map (·.origin) = some .lineResetReply)
    ∧ (let s := queued [⟨frame, .lineResetReply⟩] none true;
      s.unit.lineResetPending = true ∧ s.unit.replySlot.any (fun r => r.origin == .lineResetReply) = false
        ∧ ∀ r, r ∈ s.line.cabQueue.tail → r.origin ≠ .lineResetReply) := by decide +kernel

/-- AssignAddressJudged: DARK at the discovery address, LINKED at the own one, arguments at their bounds. -/
theorem witness_AssignAddressJudged :
    (dark.RouterOk ∧ dark.store.reading = false ∧ dark.unit.lineResetPending = false ∧ dark.unit.replySlot = none
      ∧ dark.router.link = .dark)
    ∧ (linked.RouterOk ∧ linked.router.link = .linked ∧ (cmd [4]).dest = linked.router.nodeAddress)
    ∧ ([0, 1, 4, 9, 30, 31].map (fun a => lastReply (after (.assignAddress (cmd [a]) false) linked))
        = [some [18], some [0], some [0], some [18], some [0], some [18]]) :=
  ⟨⟨.inl ⟨rfl, rfl, rfl, rfl⟩, rfl, rfl, rfl, rfl⟩, ⟨witness_invariants.2.2.1, rfl, rfl⟩, by decide +kernel⟩

/-- ReadStatusAnswersRecord, GuardCommandsChangeState, TareSearchRuns, TallyCommandsAndTimers, CommitSwapsWaitsOrIsRefused: a command without arguments is taken, in every guard state. -/
theorem witness_taken (g : GuardState) : (inGuard g).Takes (cmd []) ∧ (cmd []).body = [] ∧ (inGuard g).guard.state = g := by
  refine ⟨?_, rfl, State.enterGuard_state _ _ _⟩
  cases g <;> exact ⟨by decide +kernel, by decide +kernel, by decide +kernel, by decide +kernel, by decide +kernel⟩

/-- RecordsStandInTheirLayouts: every record at the bounds of its fields, with and without a tip position. -/
theorem witness_RecordsStandInTheirLayouts :
    (linked.guard.limitFlags.length = 8 ∧ linked.tally.selected < 12 ∧ linked.lift.tare ≤ 2000
      ∧ linked.tally.records.length ≤ 24 ∧ linked.tip = none)
    ∧ (let t := { tip with
        ring := .beyond, sector := 11, band := .beyond, fallSector := some 11, utilization := some 2000, net := 20000
        reach := 15000, slew := 3599 }
      ringCode t.ring ≤ 5 ∧ t.sector < 12 ∧ bandCode t.band ≤ 6 ∧ t.fallSector.all (· < 12) ∧ t.utilization.all (· ≤ 2000)
        ∧ t.net ≤ 20000 ∧ t.reach ≤ 15000 ∧ t.slew ≤ 3599)
    ∧ (let r : LiftRecord :=
        ⟨0xFFFF#16, .abandoned, 11, some ⟨20000, 20000, 15000⟩, .beyond, none, .beyond, 1048575, 1048575, true, true⟩
      r.assortment < 12 ∧ bandCode r.band ≤ 6 ∧ r.pickTime ≤ 1048575 ∧ r.liftTime ≤ 1048575
        ∧ r.weighing.all (fun w => w.weight ≤ 20000 ∧ w.spread ≤ 20000 ∧ w.reach ≤ 15000))
    ∧ (let u : TallyUnit := ⟨List.replicate 12 ⟨999999, 65535, 65535, 65535⟩, 11, 4294967295, [], 0⟩
      u.tallies.length = 12
        ∧ (∀ t, t ∈ u.tallies → t.mass ≤ 999999 ∧ t.loaded ≤ 65535 ∧ t.unloaded ≤ 65535 ∧ t.unweighed ≤ 65535)
        ∧ u.workTimer ≤ 4294967295) := by decide +kernel

/-- ClearConditionsKeepsPresentCauses: the last mask that is taken and the first that is not. -/
theorem witness_ClearConditionsKeepsPresentCauses :
    linked.Takes (cmd [1, 255, 255, 255]) ∧ u32At (cmd [1, 255, 255, 255]).body 0 = 2 ^ 25 - 1
      ∧ u32At (cmd [2, 0, 0, 0]).body 0 = 2 ^ 25 := ⟨linked_takes _, by decide, by decide⟩

/-- `linked` with a window open over the Assortments. -/
def windowed : State :=
  { linked with unit := { linked.unit with window := some ⟨.assortments, 0, 0, 0, 11, .rowFirst, 0, 0⟩ } }

/-- MalformedCommandsRefused: an empty payload and an unknown byte, an argument too few, a broken TABLE DATA in an open
window. -/
theorem witness_MalformedCommandsRefused :
    (commandOfPayload [] = none ∧ commandOfPayload [64] = none)
      ∧ (argumentCount .tableWrite = some 6 ∧ (cmd [1, 0, 0, 0, 0]).body.length ≠ 6)
      ∧ (windowed.unit.window = some ⟨.assortments, 0, 0, 0, 11, .rowFirst, 0, 0⟩
        ∧ (cmd [1, 2, 3]).body.length % TableId.assortments.entrySize ≠ 0 ∧ (cmd []).body.length = 0
        ∧ windowed.store.state ≠ .reloading ∧ windowed.Takes (cmd [1, 2, 3]) ∧ windowed.Takes (cmd []))
      ∧ linked.Takes (cmd [1, 2, 3]) :=
  ⟨by decide, by decide, ⟨rfl, by decide, rfl, by decide, ⟨rfl, rfl, rfl, rfl, rfl⟩, ⟨rfl, rfl, rfl, rfl, rfl⟩⟩, linked_takes _⟩

/-- CommandFramesRouted: a state and a frame for each of the clauses, of a known command and of none. -/
theorem witness_CommandFramesRouted :
    ({ linked.store with reading := true } : ImageStore).reading = true
      ∧ (dark.store.reading = false ∧ dark.router.link = .dark ∧ ¬(CommandId.park = .assignAddress ∧ (0#5) = 0))
      ∧ (dark.router.link = .dark ∧ CommandId.assignAddress = .assignAddress
        ∧ ({ dark with unit := ⟨none, some ⟨frame, .reply⟩, false⟩ } : State).unit.replySlot.isSome = true)
      ∧ (queued [] none true).unit.lineResetPending = true
      ∧ ((queued [] (some ⟨frame, .reply⟩) false).unit.replySlot.isSome = true
        ∧ (queued [] (some ⟨frame, .reply⟩) false).unit.lineResetPending = false)
      ∧ ((5#5) ≠ linked.router.nodeAddress ∧ (5#5) ≠ 31) ∧ ((31#5) ≠ linked.router.nodeAddress)
      ∧ linked.router.link = .linked ∧ linked.store.reading = false
      ∧ (cmd []).dest = linked.router.nodeAddress ∧ commandOfPayload (cmd [99]).body = none := by decide

/-- LineResetPendsUntilItsReplyDeparts: LINE_RESET, in each store state. -/
theorem witness_LineResetTaken (st : StoreState) :
    ({ linked with store := { linked.store with state := st } } : State).Takes (cmd []) := ⟨rfl, rfl, rfl, rfl, rfl⟩

/-- OutputQueuesOfFourFrames: queues of 3 and of 4 frames, with and without a waiting reply. -/
theorem witness_OutputQueuesOfFourFrames :
    let full := List.replicate 4 (⟨frame, .forwarded⟩ : OutFrame)
    (queued (full.drop 1) none false).line.cabQueue.length < 4 ∧ 4 ≤ (queued full none false).line.cabQueue.length
      ∧ full = ⟨frame, .forwarded⟩ :: full.drop 1 ∧ (full.drop 1).length < 4
      ∧ (queued full (some ⟨frame, .reply⟩) false).unit.replySlot = some ⟨frame, .reply⟩
      ∧ ¬((queued full none false).unit.lineResetPending = true ∧ Origin.forwarded = .lineResetReply)
      ∧ ({ linked with line := ⟨[], List.replicate 4 frame⟩ } : State).line.craneQueue = frame :: List.replicate 3 frame := by
  decide

/-- ReceptionReturnsTheFrameSent: a payload of 28 bytes, and a reception that gives a frame. -/
theorem witness_ReceptionReturnsTheFrameSent :
    let f : Frame := ⟨3, 9, 5, 30, List.replicate 28 7⟩
    f.payload.length ≤ 28 ∧ (receiveFrame (onWire f)) = some f := by decide +kernel

/-- BadFramesLatchTheirPort: too short, a malformed byte, a wrong check byte. -/
theorem witness_BadFramesLatchTheirPort :
    ([[⟨1, false⟩], (onWire frame).map (fun b => ⟨b.value, true⟩), (onWire frame).dropLast ++ [⟨0, false⟩]] :
      List (List RxByte)).all (fun rx => !rx.isEmpty && (receiveFrame rx).isNone) = true := by decide +kernel

/-- ReceivedFramesReachTheirRows: bodies at their longest, and a class that has no row. -/
theorem witness_ReceivedFramesReachTheirRows :
    (List.replicate 27 (0 : Byte)).length ≤ 27 ∧ commandOfPayload (List.replicate 28 (0 : Byte)) = none
      ∧ (⟨7, 9, 0, 30, []⟩ : Frame).cls ≠ classCommand ∧ (⟨7, 9, 0, 30, []⟩ : Frame).cls ≠ classSync
      ∧ (⟨7, 9, 0, 30, []⟩ : Frame).cls ≠ classDemand ∧ (⟨7, 9, 0, 30, []⟩ : Frame).cls ≠ classSample := by decide

/-- GuardStartEntersHold. -/
theorem witness_GuardStartEntersHold : linked.Takes (cmd []) ∧ linked.LiftOk ∧ (cmd []).body = [] :=
  ⟨linked_takes _, witness_invariants.2.2.2.2.2.1, rfl⟩

/-- EntryActionsInOrder: the same state, another state, and a lift in each lift state with a context. -/
theorem witness_EntryActionsInOrder (st : LiftState) :
    linked.guard.state = .blocked ∧ linked.guard.state ≠ .hold ∧ (lifting st context).lift.state = st
      ∧ (lifting st context).lift.context = some context := ⟨rfl, by decide, rfl, rfl⟩

/-- ForceTestSwitchesEnable: arguments 0, 1 and 2. -/
theorem witness_ForceTestSwitchesEnable (x : Byte) : linked.Takes ⟨4, 30, 0, [x]⟩ ∧ linked.VenOk :=
  ⟨⟨rfl, rfl, rfl, rfl, rfl⟩, witness_invariants.2.2.2.1⟩

/-- SampleWatchAndWarmUp: the watch running in ENFORCE and HOLD, warm-up counts 2 and 3, and another state. -/
theorem witness_SampleWatchAndWarmUp :
    let enforce : EnvelopeGuard := { linked.guard with state := .enforce, watch := some 40 }
    let hold (n : Nat) : EnvelopeGuard := { linked.guard with state := .hold, watch := some 500, warmUp := n }
    enforce.watch = some 40 ∧ (hold 2).watch = some 500 ∧ (hold 2).warmUp + 1 < 4 ∧ (hold 3).warmUp + 1 = 4
      ∧ linked.guard.state ≠ .hold ∧ linked.guard.state ≠ .enforce := by decide

/-- DemandFramesDisposed: payloads of 16 and 28 bytes. -/
theorem witness_DemandFramesDisposed :
    (⟨9, 30, 0, List.replicate 16 0⟩ : Packet).body.length ≤ 28 ∧ (⟨9, 30, 0, List.replicate 28 0⟩ : Packet).body.length ≤ 28 := by
  decide

/-- DemandFramesDisposed: eight demands at their bounds are read back from a filtered frame; a still frame and one that is
not. -/
theorem witness_DemandFramesDisposed_read :
    let out (v : Int) : List Filtered := List.replicate 7 ⟨v, .passed, false⟩ ++ [⟨-v, .capped, false⟩]
    (out 1000).length = 8 ∧ (∀ x, x ∈ out 1000 → x.value.natAbs ≤ 1000)
      ∧ (inGuard .service).allStill (out 0) = true ∧ linked.allStill (out 1) = false := by decide +kernel

/-- FilteredDemandsInEachState: a demand past its range in each filtering state, in and out of a violation. -/
theorem witness_FilteredDemandsInEachState :
    ([.hold, .service, .enforce] : List GuardState).all (fun g =>
      let s := { linked with tip := some tip, guard := { linked.guard with state := g } }
      decide (([-32768, 32767] : List Int)[0]? = some (-32768)) && ((s.filterDemands [-32768, 32767])[0]?).isSome) = true
    ∧ tables.slotKind 0 ∈ motionKinds ∧ tip.zone.rule ≠ .noEntry ∧ tip.band ≠ .beyond
    ∧ ({ tip with band := .beyond } : TipPosition).band = .beyond
    ∧ (enforceDemand tables .normal (some tip) 0 32767).value ≠ 0 := by decide +kernel

/-- EnforcedDemandsSettledInOrder: a slot of each motion kind. -/
theorem witness_EnforcedDemandsSettledInOrder :
    tables.slotKind 0 = .slew ∧ tables.slotKind 1 = .boom ∧ tables.slotKind 2 = .jib ∧ tables.slotKind 3 = .ext := by
  decide +kernel

/-- SyncOpensSampleSet. -/
theorem witness_SyncOpensSampleSet : (⟨30, 30, 0, [5]⟩ : Packet).body.length ≤ 28 := by decide

/-- SampleFillsOpenSet: the last pair of a frame of six, with a negative raw value. -/
theorem witness_SampleFillsOpenSet_pairs :
    (pairsOf 6 (bs (0 :: List.replicate 15 0 ++ [15, 255, 254])))[5]? = some (15, -2) := by decide +kernel

/-- SampleFillsOpenSet: DARK; no open set, another sequence, a wrong length; a set that stays open and one that is
completed. -/
theorem witness_SampleFillsOpenSet :
    let o : OpenSet := ⟨5, List.replicate 7 (some 0) ++ [none]⟩
    dark.router.link = .dark ∧ linked.router.link = .linked ∧ linked.openSet = none
      ∧ (bs [6, 7, 0, 0]).headD 0 ≠ o.sequence ∧ ¬(bs [5, 7, 0]).length = 1 + 3 * 1
      ∧ (bs [5, 7, 0, 0]).length = 1 + 3 * 1 ∧ (bs [5, 7, 0, 0]).headD 0 = o.sequence
      ∧ (takePairs tables 7 (pairsOf 1 (bs [5, 7, 0, 0])) o.slots).all Option.isSome = true
      ∧ (takePairs tables 7 (pairsOf 1 (bs [5, 6, 0, 0])) o.slots).all Option.isSome = false := by decide +kernel

/-- PairsCalibratedIntoSlots: a channel without an entry, and the entries of the first and the last quantity. -/
theorem witness_PairsCalibratedIntoSlots :
    (∀ q, q < 8 → ¬(tables.channelSource q ≠ 0 ∧ tables.channelSource q = 7 ∧ tables.channelNumber q = 15 ∧ 15 < 16))
      ∧ (tables.channelSource 0 = 7 ∧ tables.channelNumber 0 = 0)
      ∧ (tables.channelSource 7 = 7 ∧ tables.channelNumber 7 = 7
        ∧ ∀ j, j < 7 → ¬(tables.channelSource j = 7 ∧ tables.channelNumber j = 7)) := by decide +kernel

/-- RingSectorTiltAndBand: the edges of the last ring, sector and band, and the ends of the pitch and roll ranges. -/
theorem witness_RingSectorTiltAndBand :
    ringOf 9999 = .within 4 ∧ ringOf 10000 = .beyond ∧ sectorOf 3599 = 11 ∧ bandOf 419 = .within 5 ∧ bandOf 420 = .beyond
      ∧ tiltOf (-600) 600 = 849 ∧ tiltOf 0 0 = 0 := by decide +kernel

/-- FallAzimuthPointsDownhill: the least tilt with a fall azimuth, at both ends of the pitch range. -/
theorem witness_FallAzimuthPointsDownhill :
    tiltOf 20 0 = 20 ∧ fallAzimuthOf 20 (-600) 0 = some 0 ∧ fallAzimuthOf 20 600 0 = some 1800
      ∧ fallAzimuthOf 19 600 0 = none ∧ fallAzimuthOf 848 600 (-600) = some 1350 := by decide +kernel

/-- ZoneWalkCarriesLastClass: ring 1 of the tables, before and after a CLASS entry, and closed ring 0. -/
theorem witness_ZoneWalkCarriesLastClass :
    tables.zone 1 0 = some (.header true 1) ∧ tables.zone 0 0 = some (.header false 0)
      ∧ (∀ e, 1 ≤ e → e ≤ 1 → tables.zone 1 e = some .plain)
      ∧ tables.zone 1 2 = some (.cls 3) := by
  refine ⟨by decide +kernel, by decide +kernel, ?_, by decide +kernel⟩
  intro e h1 h2
  have : e = 1 := by omega
  subst this; decide +kernel

/-- CapacityAndUtilization: the last interpolated reach, the first flat one, and utilizations at ceff 0, 1 and full. -/
theorem witness_CapacityAndUtilization :
    9374 < 9375 ∧ tables.capacityPoint (9374 / 625 + 1) ≤ tables.capacityPoint (9374 / 625)
      ∧ capacityAt tables 9375 = 2400 ∧ utilizationOf 0 0 = 0 ∧ utilizationOf 0 1 = 2000 ∧ utilizationOf 1 1 = 1000 := by
  decide +kernel

/-- OverloadFilterCounts: the two overload states. -/
theorem witness_OverloadFilterCounts :
    linked.capacity.overload = .normal ∧ (⟨.overload, 0, 0⟩ : CapacityMonitor).overload = .overload := by decide

/-- GrippedLoadIsPickedUp: held in HOLD, and pressures at, between and below the thresholds outside it. -/
theorem witness_GrippedLoadIsPickedUp :
    (let s := (lifting .aloft context).enterGuard .hold true;
      s.guard.state = .hold ∧ s.lift.state ≠ .empty)
    ∧ (linked.guard.state ≠ .hold ∧ linked.lift.state = .empty)
    ∧ ((tables.setting .gripOn : Int) ≤ 600 ∧ (299 : Int) < tables.setting .gripOff ∧ (300 : Int) < tables.setting .gripOn
      ∧ (tables.setting .gripOff : Int) ≤ 300)
    ∧ (lifting .gripped context).lift.context = some context := by decide +kernel

/-- TightestStableWindowWeighs: ALOFT without a weight, WEIGHED with one. -/
theorem witness_TightestStableWindowWeighs :
    (lifting .aloft context).lift.state = .aloft ∧ context.weighing = none
      ∧ (let c := { context with weighing := some ⟨600, 5, 6800⟩ }
        (lifting .weighed c).lift.state = .weighed ∧ c.weighing.isSome = true
          ∧ (lifting .weighed c).lift.context = some c) := by decide

/-- LiftEndsWithItsRecord: a lift in each of its three states, and none. -/
theorem witness_LiftEndsWithItsRecord :
    (lifting .gripped context).lift.state = .gripped ∧ (lifting .aloft context).lift.state = .aloft
      ∧ (lifting .weighed context).lift.state = .weighed ∧ (lifting .weighed context).lift.context = some context
      ∧ linked.lift.state = .empty := by decide

/-- RecordBookedAndQueued: a record of the last assortment. -/
theorem witness_RecordBookedAndQueued :
    (buildRecord .loaded none 0 { context with assortment := 11 }).assortment < linked.tally.tallies.length := by decide

/-- TareSearchRuns: with and without a search; a tip position without one changes nothing. -/
theorem witness_TareSearchRuns :
    linked.lift.search = none
      ∧ ({ linked.lift with search := some ⟨[], 63⟩ } : LiftUnit).search = some ⟨[], 63⟩ := by decide

/-- TallyCommandsAndTimers: an empty and a filled queue, the limits above 0, one argument byte. -/
theorem witness_TallyCommandsAndTimers (x : Byte) :
    linked.Takes ⟨4, 30, 0, [x]⟩ ∧ linked.tally.records = [] ∧ 0 < linked.banks.active.setting .bunkLimit
      ∧ 0 < linked.banks.active.setting .bunkNear
      ∧ ({ linked.tally with records := [buildRecord .loaded none 0 context] } : TallyUnit).records
          = [buildRecord .loaded none 0 context] :=
  ⟨⟨rfl, rfl, rfl, rfl, rfl⟩, rfl, by decide +kernel, by decide +kernel, rfl⟩

/-- TableWriteOpensWindow: a window of the whole Zone Map, walked in both orders. -/
theorem witness_TableWriteOpensWindow :
    linked.Takes (cmd [1, 0, 4, 0, 12, 1]) ∧ (cmd [1, 0, 4, 0, 12, 1]).body.length ≤ 27
      ∧ windowOf (bs [1, 0, 4, 0, 12, 1]) = some ⟨.zoneMap, 0, 4, 0, 12, .columnFirst, 0, 0⟩
      ∧ (Nat.repeat Window.advance 65 ⟨.zoneMap, 0, 4, 0, 12, .columnFirst, 0, 0⟩).col = 0
      ∧ (Nat.repeat Window.advance 64 ⟨.zoneMap, 0, 4, 0, 12, .rowFirst, 0, 0⟩).row = 4 :=
  ⟨linked_takes _, by decide, by decide, by decide, by decide⟩

/-- TableDataWritesEntries: during a reload, without a window, and with 6 whole entries of 4 bytes. -/
theorem witness_TableDataWritesEntries :
    let w : Window := ⟨.assortments, 0, 0, 0, 11, .rowFirst, 0, 0⟩
    linked.Takes (cmd (List.replicate 24 65)) ∧ linked.store.state ≠ .reloading ∧ linked.unit.window = none
      ∧ (cmd (List.replicate 24 65)).body.length = 6 * w.table.entrySize ∧ tables.bytes.length = 409
      ∧ 11 < TableId.assortments.entries ∧ (bs [1, 65, 65, 65]).length = TableId.assortments.entrySize :=
  ⟨linked_takes _, by decide, rfl, by decide, test_tables_valid.1, by decide, by decide⟩

/-- TableReadReturnsEntries: four arguments; bank 2, table 9, column 13, count 0; the last entry of the Zone Map. -/
theorem witness_TableReadReturnsEntries :
    linked.Takes (cmd [1, 1, 4, 12, 255]) ∧ (cmd [0, 1, 0, 0]).body.length ≠ 5 ∧ 1 < u8At (bs [2, 1, 0, 0, 1]) 0
      ∧ (TableId.ofNumber (u8At (bs [0, 9, 0, 0, 1]) 1)).isNone = true ∧ TableId.zoneMap.cols ≤ u8At (bs [0, 1, 0, 13, 1]) 3
      ∧ u8At (bs [0, 1, 0, 0, 0]) 4 = 0
      ∧ (TableId.zoneMap.number = u8At (bs [1, 1, 4, 12, 255]) 1 ∧ 4 < TableId.zoneMap.rows ∧ 12 < TableId.zoneMap.cols) :=
  ⟨linked_takes _, by decide, by decide, by decide, by decide, by decide, by decide⟩

/-- ValidationStopsAtFirstFailure: a Table Set that passes and the factory defaults, which fail. -/
theorem witness_ValidationStopsAtFirstFailure :
    validate tables 4 = none ∧ validate factoryDefaults 4 = some (.capacityCurve, 0) :=
  ⟨test_tables_valid.2, by decide +kernel⟩

/-- StoreAndReloadStart and StoreAndReloadEnd: the lengths, and a store and a reload running. -/
theorem witness_StoreAndReload :
    linked.Takes (cmd []) ∧ linked.store.image.length = 411 ∧ linked.banks.active.bytes.length = 409
      ∧ ({ linked.store with state := .storing } : ImageStore).state = .storing
      ∧ ({ linked.store with state := .reloading } : ImageStore).state = .reloading
      ∧ imageMatches linked.store.image = true ∧ imageMatches (imageOf tables (spoiledCheck 0 tables)) = false :=
  ⟨linked_takes _, imageOf_length tables _ test_tables_valid.1, test_tables_valid.1, rfl, rfl, test_written_matches,
    imageMatches_spoiled 0 tables test_tables_valid.1⟩

/-- StoreAndReloadEnd: an image that reads back as it was written, and one that does not. -/
theorem witness_StoreAndReloadEnd :
    changeBytes (writtenImage tables) [] = writtenImage tables
      ∧ changeBytes (writtenImage tables) [⟨0, 1⟩] ≠ writtenImage tables := by
  refine ⟨rfl, fun h => ?_⟩
  have := congrArg (fun l => l[0]?) h
  revert this; decide +kernel

/-- StoreAndReloadEnd: the last byte of an image changed twice, another one in between and one after; the second value holds. -/
theorem witness_StoreAndReloadEnd_changes :
    let changes : List ByteChange := [⟨410, 1⟩, ⟨0, 2⟩, ⟨410, 3⟩, ⟨1, 4⟩]
    let image : Bytes := List.replicate 411 0
    changes = [⟨410, 1⟩, ⟨0, 2⟩] ++ ⟨410, 3⟩ :: [⟨1, 4⟩] ∧ 410 < image.length
      ∧ (∀ d, d ∈ ([⟨1, 4⟩] : List ByteChange) → d.offset ≠ 410) ∧ (changeBytes image changes)[410]? = some 3 := by
  decide +kernel

/-- The two checks of the digits 1 to 9, which are known for these polynomials and start values. -/
theorem test_checks :
    (crc16 (bs [49, 50, 51, 52, 53, 54, 55, 56, 57])).toNat = 0x29B1
      ∧ (crc8 (bs [49, 50, 51, 52, 53, 54, 55, 56, 57])).toNat = 0xB4 := by decide +kernel

/-- ImageReadEndLoadsBanks: the state after reset reads its image. -/
theorem witness_ImageReadEndLoadsBanks : State.reset.store.reading = true := rfl

/-- ActiveBankChangesAtRest: a COMMIT that changes the active bank. -/
theorem witness_ActiveBankChangesAtRest :
    (∃ t, exec (.commit (cmd [])) changed = .next t)
      ∧ (after (.commit (cmd [])) changed).banks.active ≠ changed.banks.active := by
  refine ⟨⟨_, rfl⟩, fun h => ?_⟩
  have h' : (after (.commit (cmd [])) changed).banks.active.setting .warn = 900 := by rw [h]; decide +kernel
  rw [test_commit] at h'
  exact absurd h' (by decide)

end Sys2Proof.Tests
end

/-! PROOFS. Ring, sector, tilt and band, the cosine factors, and the fall azimuth (spec/01) -/

namespace Sys2Proof.Machine

/-! ### The bitwise search of `largest` -/

/-- The powers of two below 2ⁿ, tried in turn from a start whose bracket is 2ⁿ wide, narrow the bracket to 1. -/
theorem foldl_powers_bracket (test : Nat → Bool) (n k : Nat) (hk : test k = true) (hn : test (k + 2 ^ n) = false) :
    let r := (((List.range n).reverse).map (2 ^ ·)).foldl (fun k b => if test (k + b) then k + b else k) k
    test r = true ∧ test (r + 1) = false := by
  induction n generalizing k with
  | zero => exact ⟨hk, hn⟩
  | succ n ih =>
    simp only [List.range_succ, List.reverse_append, List.reverse_singleton, List.singleton_append, List.map_cons,
      List.foldl_cons]
    cases hb : test (k + 2 ^ n) with
    | true =>
      rw [if_pos rfl]
      exact ih _ hb (by rwa [Nat.add_assoc, ← Nat.two_mul, ← Nat.pow_succ'])
    | false =>
      rw [if_neg Bool.false_ne_true]
      exact ih k hk hb

/-- The number found passes the test and its successor does not. -/
theorem largest_spec {test : Nat → Bool} (h0 : test 0 = true) (h1 : test 1024 = false) :
    test (largest test) = true ∧ test (largest test + 1) = false :=
  foldl_powers_bracket test 10 0 h0 h1

/-! ### Ring, sector, tilt and band (R6 to R9) -/

/-- The tilt of a vehicle that is not level brackets the sum of the squares (R8). -/
theorem tiltOf_spec {p r : Int} (hp : p * p ≤ 360000) (hr : r * r ≤ 360000) (h : 0 < p * p + r * r) :
    let t : Int := tiltOf p r
    0 < t ∧ t * t - t + 1 ≤ p * p + r * r ∧ p * p + r * r ≤ t * t + t := by
  intro t
  obtain ⟨n, hn⟩ := Int.eq_ofNat_of_zero_le h.le
  have ht : t = (largest (fun k => k * k - k < n) : Nat) := by simp only [t, tiltOf, hn, Int.toNat_natCast]
  obtain ⟨below, above⟩ := largest_spec (test := fun k => k * k - k < n) (decide_eq_true (by omega))
    (decide_eq_false (by omega))
  generalize largest _ = k at ht below above
  have below := of_decide_eq_true below
  have above := of_decide_eq_false above
  have hk : k * k - k + k = k * k := Nat.sub_add_cancel (Nat.le_mul_self k)
  have hs : (k + 1) * (k + 1) - (k + 1) = k * k + k := by rw [Nat.add_mul, Nat.one_mul, Nat.add_sub_cancel, Nat.mul_succ]
  rw [hs, not_lt] at above
  have hpos : 0 < k := Nat.pos_of_ne_zero (by rintro rfl; omega)
  rw [ht, hn]
  refine ⟨by exact_mod_cast hpos, ?_, by exact_mod_cast above⟩
  have : k * k + 1 ≤ n + k := by omega
  zify at this
  linarith

/-- A tilt of 850 or more needs more than two ends of the pitch and roll ranges give. -/
theorem tilt_le_849 {t n : Int} (h : t * t - t + 1 ≤ n) (hn : n ≤ 720000) : t ≤ 849 := by nlinarith

/-- Settles O31: the search of `largest` brackets the tilt; ring, sector and band are their definitions. -/
theorem ringSectorTiltAndBand : Obligations.RingSectorTiltAndBand := by
  refine ⟨⟨fun reach => ⟨fun h => ⟨if_pos h, by omega⟩, fun h => if_neg h.not_gt⟩,
    fun slew h => ⟨rfl, by unfold sectorOf; omega⟩,
    fun tilt => ⟨fun h => ⟨if_pos h, by omega⟩, fun h => if_neg h.not_gt⟩⟩, ?_⟩
  intro p r p1 p2 r1 r2
  refine ⟨fun ⟨hp, hr⟩ => by rw [hp, hr]; rfl, fun hne => ?_⟩
  have hp : p * p ≤ 360000 := by nlinarith
  have hr : r * r ≤ 360000 := by nlinarith
  have hpos : 0 < p * p + r * r := by
    rcases not_and_or.mp hne with h | h
    · have := mul_self_pos.mpr h; nlinarith
    · have := mul_self_pos.mpr h; nlinarith
  obtain ⟨h1, h2, h3⟩ := tiltOf_spec hp hr hpos
  exact ⟨h1, h2, h3, tilt_le_849 h2 (by linarith)⟩

/-! ### Cosine factors (R4) -/

/-- `k` is the integer nearest to 32768 times the cosine of `θ` in 0.1°, and no other is as near. -/
def NearestCos (θ : ℝ) (k : Int) : Prop := |32768 * Real.cos (θ * Real.pi / 1800) - (k : ℝ)| < 1 / 2

/-- The nearest integer is the rounded value, so there is one at most. -/
theorem NearestCos.round_eq {θ : ℝ} {k : Int} (h : NearestCos θ k) :
    round (32768 * Real.cos (θ * Real.pi / 1800)) = k := by
  obtain ⟨lo, hi⟩ := abs_lt.mp h
  exact round_eq_iff.mpr ⟨by linarith, by linarith⟩

/-- Angles with one cosine have one nearest factor. -/
theorem NearestCos.unique {θ φ : ℝ} {j k : Int} (hj : NearestCos θ j) (hk : NearestCos φ k)
    (h : Real.cos (θ * Real.pi / 1800) = Real.cos (φ * Real.pi / 1800)) : j = k := by
  rw [← hj.round_eq, ← hk.round_eq, h]

/-- The cosine is even. -/
theorem cos_neg_tenths (θ : ℝ) : Real.cos (-θ * Real.pi / 1800) = Real.cos (θ * Real.pi / 1800) := by
  rw [← Real.cos_neg]; ring_nf

/-- The cosine repeats every 3600. -/
theorem cos_add_turns_tenths (θ : ℝ) (m : Int) :
    Real.cos ((θ + 3600 * m) * Real.pi / 1800) = Real.cos (θ * Real.pi / 1800) := by
  rw [← Real.cos_add_int_mul_two_pi (θ * Real.pi / 1800) m]; ring_nf

/-- The nearest factor is even. -/
theorem NearestCos.neg {θ : ℝ} {k : Int} (h : NearestCos θ k) : NearestCos (-θ) k := by
  rwa [NearestCos, cos_neg_tenths]

/-- The nearest factor repeats every 3600. -/
theorem NearestCos.add_turns {θ : ℝ} {k : Int} (h : NearestCos θ k) (m : Int) : NearestCos (θ + 3600 * m) k := by
  rwa [NearestCos, cos_add_turns_tenths]

/-- Half a turn less the angle negates the factor. -/
theorem NearestCos.supplement {θ : ℝ} {k : Int} (h : NearestCos θ k) : NearestCos (1800 - θ) (-k) := by
  have e : (1800 - θ) * Real.pi / 1800 = Real.pi - θ * Real.pi / 1800 := by ring
  have neg : 32768 * -Real.cos (θ * Real.pi / 1800) - ((-k : Int) : ℝ)
      = -(32768 * Real.cos (θ * Real.pi / 1800) - (k : ℝ)) := by push_cast; ring
  rwa [NearestCos, e, Real.cos_pi_sub, neg, abs_neg]

/-- Whether the fixed-point value of an angle of the quadrant stands clear of a half-integer, by 10¹⁴ parts in 2·10¹⁸. -/
def clearOfHalf (n : Nat) : Bool :=
  let r := (2 * 32768 * fixedCos (2 * n) + fixedOne) % (2 * fixedOne)
  10 ^ 14 ≤ r && r + 10 ^ 14 ≤ 2 * fixedOne

/-- No fixed-point value of the quadrant stands close to a half-integer. -/
theorem clearOfHalf_all : (List.range 901).all clearOfHalf = true := by decide +kernel

/-- The factors of the quadrant are nearest: the fixed-point error is smaller than the distance from a half-integer. -/
theorem quadrantFactor_nearest {n : Nat} (hn : n ≤ 900) : NearestCos n (quadrantFactor n) := by
  have clear := List.all_eq_true.mp clearOfHalf_all n (List.mem_range.mpr (by omega))
  simp only [clearOfHalf, Bool.and_eq_true, decide_eq_true_eq] at clear
  obtain ⟨lo, hi⟩ := clear
  obtain ⟨near, -⟩ := fixedCos_near (h := 2 * n) (by omega)
  have divided := Nat.div_add_mod (2 * 32768 * fixedCos (2 * n) + fixedOne) (2 * fixedOne)
  rw [← quadrantFactor] at divided
  generalize (2 * 32768 * fixedCos (2 * n) + fixedOne) % (2 * fixedOne) = r at *
  rify [fixedOne] at divided lo hi
  have angle : ((2 * n : ℕ) : ℝ) * (Real.pi / 3600) = n * Real.pi / 1800 := by push_cast; ring
  rw [angle] at near
  obtain ⟨n1, n2⟩ := abs_le.mp near
  rw [NearestCos, Int.cast_natCast, abs_lt]
  constructor <;> linarith

/-- The factor of every angle is nearest: the quadrant's by the cosine's symmetries. -/
theorem cosFactor_nearest (θ : Int) : NearestCos θ (cosFactor θ) := by
  obtain ⟨n, hn⟩ := Int.eq_ofNat_of_zero_le (Int.emod_nonneg θ (show (3600 : Int) ≠ 0 by decide))
  have hlt : n < 3600 := by omega
  have hθ : (θ : ℝ) = (n : ℝ) + 3600 * (θ / 3600 : Int) := by
    have := Int.emod_add_mul_ediv θ 3600
    rw [hn] at this
    exact_mod_cast this.symm
  rw [hθ]
  apply NearestCos.add_turns
  simp only [cosFactor, hn, Int.toNat_natCast]
  split_ifs with h1 h2 h3
  · exact quadrantFactor_nearest h1
  · have := (quadrantFactor_nearest (n := 1800 - n) (by omega)).supplement
    rwa [Nat.cast_sub h2, Nat.cast_ofNat, sub_sub_cancel] at this
  · have := (quadrantFactor_nearest (n := n - 1800) (by omega)).neg.supplement
    rwa [Nat.cast_sub (by omega), Nat.cast_ofNat, neg_sub, sub_sub_cancel] at this
  · have := (quadrantFactor_nearest (n := 3600 - n) (by omega)).neg.add_turns 1
    rwa [Nat.cast_sub hlt.le, Nat.cast_ofNat, neg_sub, Int.cast_one, mul_one, sub_add_cancel] at this

/-- Settles O32: the factor is the nearest integer, and evenness and period follow from the cosine's, the nearest integer
being one. -/
theorem cosineFactorIsNearest : Obligations.CosineFactorIsNearest := fun θ =>
  ⟨(cosFactor_nearest (-θ)).unique (cosFactor_nearest θ) (by rw [Int.cast_neg, cos_neg_tenths]),
    (cosFactor_nearest (θ + 3600)).unique (cosFactor_nearest θ) (by simpa using cos_add_turns_tenths θ 1),
    cosFactor_nearest θ⟩

/-! ### Vectors near a line

A vector (x, y) with whole components in 0..600 lies on one side of the line through a point (c, s) of the quadrant as
x·s or y·c is the greater. The vectors nearest to the line are found by mediants, from (1, 0) below it and (0, 1) above
it; `d₁` and `d₂` hold how far x·s and y·c differ at the vector below and at the vector above. -/

/-- How far apart x·s and y·c have to be for the fixed-point error to decide nothing: 2·10⁻⁶. -/
def sideGap : Nat := 2000000000000

/-- Whether the mediants that stay in 0..600 keep their distance from the line. -/
def mediantsClear : Nat → Nat → Nat → Nat → Nat → Nat → Nat → Bool
  | 0, _, _, _, _, _, _ => false
  | fuel + 1, x₁, y₁, d₁, x₂, y₂, d₂ =>
    if 600 < x₁ + x₂ || 600 < y₁ + y₂ then true
    else if d₂ + sideGap ≤ d₁ then mediantsClear fuel (x₁ + x₂) (y₁ + y₂) (d₁ - d₂) x₂ y₂ d₂
    else d₁ + sideGap ≤ d₂ && mediantsClear fuel x₁ y₁ d₁ (x₁ + x₂) (y₁ + y₂) (d₂ - d₁)

/-- Every combination of the vectors below and above that stays in 0..600 keeps its distance from the line: it is one of the
two, or it combines their mediant with one of them. -/
theorem mediantsClear_spec {fuel x₁ y₁ d₁ x₂ y₂ d₂ a b : Nat} (h : mediantsClear fuel x₁ y₁ d₁ x₂ y₂ d₂ = true)
    (h₁ : sideGap ≤ d₁) (h₂ : sideGap ≤ d₂) (hab : 0 < a + b) (hx : a * x₁ + b * x₂ ≤ 600) (hy : a * y₁ + b * y₂ ≤ 600) :
    a * d₁ + sideGap ≤ b * d₂ ∨ b * d₂ + sideGap ≤ a * d₁ := by
  induction fuel generalizing x₁ y₁ d₁ x₂ y₂ d₂ a b with
  | zero => exact absurd h Bool.false_ne_true
  | succ fuel ih =>
    rcases Nat.eq_zero_or_pos a with rfl | ha
    · exact .inl (by nlinarith)
    rcases Nat.eq_zero_or_pos b with rfl | hb
    · exact .inr (by nlinarith)
    have inside : ¬(600 < x₁ + x₂ ∨ 600 < y₁ + y₂) := by
      rw [not_or]; constructor <;> nlinarith
    simp only [mediantsClear, Bool.or_eq_true, decide_eq_true_eq, if_neg inside] at h
    split_ifs at h with hd
    · obtain ⟨e, rfl⟩ := Nat.exists_eq_add_of_le ((Nat.le_add_right _ _).trans hd)
      rw [Nat.add_sub_cancel_left] at h
      rcases le_total a b with hle | hle
      · obtain ⟨c, rfl⟩ := Nat.exists_eq_add_of_le hle
        have clear := ih (a := a) (b := c) h (by omega) h₂ (by omega) (by linarith) (by linarith)
        exact clear.imp (fun _ => by linarith) (fun _ => by linarith)
      · obtain ⟨c, rfl⟩ := Nat.exists_eq_add_of_le hle
        exact .inr (by nlinarith)
    · rw [Bool.and_eq_true, decide_eq_true_eq] at h
      obtain ⟨hd', h⟩ := h
      obtain ⟨e, rfl⟩ := Nat.exists_eq_add_of_le ((Nat.le_add_right _ _).trans hd')
      rw [Nat.add_sub_cancel_left] at h
      rcases le_total b a with hle | hle
      · obtain ⟨c, rfl⟩ := Nat.exists_eq_add_of_le hle
        have clear := ih (a := c) (b := b) h h₁ (by omega) (by omega) (by linarith) (by linarith)
        exact clear.imp (fun _ => by linarith) (fun _ => by linarith)
      · obtain ⟨c, rfl⟩ := Nat.exists_eq_add_of_le hle
        exact .inl (by nlinarith)

/-- Whether no vector stands close to the boundary half-way between the directions `n` and `n` + 1. -/
def boundaryClear (n : Nat) : Bool :=
  let s := fixedSin (2 * n + 1)
  let c := fixedCos (2 * n + 1)
  sideGap ≤ s && sideGap ≤ c && mediantsClear 1200 1 0 s 0 1 c

/-- No vector stands close to a boundary of the quadrant. -/
theorem boundaryClear_all : (List.range 900).all boundaryClear = true := by decide +kernel

/-- A vector other than zero keeps its distance from the boundary half-way between `n` and `n` + 1. -/
theorem boundary_gap {n x y : Nat} (hn : n < 900) (hpos : 0 < x + y) (hx : x ≤ 600) (hy : y ≤ 600) :
    x * fixedSin (2 * n + 1) + sideGap ≤ y * fixedCos (2 * n + 1)
      ∨ y * fixedCos (2 * n + 1) + sideGap ≤ x * fixedSin (2 * n + 1) := by
  have clear := List.all_eq_true.mp boundaryClear_all n (List.mem_range.mpr hn)
  simp only [boundaryClear, Bool.and_eq_true, decide_eq_true_eq] at clear
  obtain ⟨⟨hs, hc⟩, h⟩ := clear
  exact mediantsClear_spec h hs hc hpos (by omega) (by omega)

/-! ### The direction of a vector -/

/-- The vector (x, y) has the direction `u`, in 0.1° counter-clockwise from the first axis. -/
def PointsAt (x y u : ℝ) : Prop :=
  ∃ ρ : ℝ, 0 < ρ ∧ x = ρ * Real.cos (u * Real.pi / 1800) ∧ y = ρ * Real.sin (u * Real.pi / 1800)

/-- A vector of the first quadrant has a direction in 0..900. -/
theorem exists_pointsAt {x y : ℝ} (hx : 0 < x) (hy : 0 ≤ y) : ∃ u, 0 ≤ u ∧ u ≤ 900 ∧ PointsAt x y u := by
  have hz : (⟨x, y⟩ : ℂ) ≠ 0 := fun h => hx.ne' (congrArg Complex.re h)
  have hlo : 0 ≤ Complex.arg ⟨x, y⟩ := Complex.arg_nonneg_iff.mpr hy
  have hhi := (abs_le.mp (Complex.abs_arg_le_pi_div_two_iff.mpr (show 0 ≤ (⟨x, y⟩ : ℂ).re from hx.le))).2
  have hpi := Real.pi_pos
  refine ⟨Complex.arg ⟨x, y⟩ * 1800 / Real.pi, by positivity, ?_, ‖(⟨x, y⟩ : ℂ)‖, norm_pos_iff.mpr hz, ?_⟩
  · rw [div_le_iff₀ hpi]; linarith
  · have e : Complex.arg ⟨x, y⟩ * 1800 / Real.pi * Real.pi / 1800 = Complex.arg ⟨x, y⟩ := by field_simp
    rw [e, Complex.norm_mul_cos_arg, Complex.norm_mul_sin_arg]
    exact ⟨rfl, rfl⟩

/-- The cross product of a vector with the unit vector at `v` is the sine of the angle between them, times its length. -/
theorem PointsAt.cross_eq {x y u : ℝ} (h : PointsAt x y u) (v : ℝ) :
    ∃ ρ : ℝ, 0 < ρ ∧ x * Real.sin (v * Real.pi / 1800) - y * Real.cos (v * Real.pi / 1800)
      = ρ * Real.sin ((v - u) * (Real.pi / 1800)) := by
  obtain ⟨ρ, hρ, rfl, rfl⟩ := h
  have e : (v - u) * (Real.pi / 1800) = v * Real.pi / 1800 - u * Real.pi / 1800 := by ring
  exact ⟨ρ, hρ, by rw [e, Real.sin_sub]; ring⟩

/-- A unit vector of the quadrant with a negative cross product stands before the vector. -/
theorem PointsAt.lt_of_cross_neg {x y u v : ℝ} (h : PointsAt x y u) (hu : 0 ≤ u) (hv : v ≤ 900)
    (neg : x * Real.sin (v * Real.pi / 1800) < y * Real.cos (v * Real.pi / 1800)) : v < u := by
  obtain ⟨ρ, hρ, e⟩ := h.cross_eq v
  by_contra hle
  have hpi := Real.pi_pos
  have : 0 ≤ Real.sin ((v - u) * (Real.pi / 1800)) :=
    Real.sin_nonneg_of_nonneg_of_le_pi (mul_nonneg (by linarith) (by positivity)) (by nlinarith)
  linarith [mul_nonneg hρ.le this]

/-- A unit vector of the quadrant with a positive cross product stands past the vector. -/
theorem PointsAt.lt_of_cross_pos {x y u v : ℝ} (h : PointsAt x y u) (hv : 0 ≤ v) (hu : u ≤ 900)
    (pos : y * Real.cos (v * Real.pi / 1800) < x * Real.sin (v * Real.pi / 1800)) : u < v := by
  obtain ⟨ρ, hρ, e⟩ := h.cross_eq v
  by_contra hle
  have hpi := Real.pi_pos
  have : Real.sin ((v - u) * (Real.pi / 1800)) ≤ 0 :=
    Real.sin_nonpos_of_nonpos_of_neg_pi_le (mul_nonpos_of_nonpos_of_nonneg (by linarith) (by positivity)) (by nlinarith)
  linarith [mul_nonpos_of_nonneg_of_nonpos hρ.le this]

/-- The fixed-point cross product of a vector with the boundary half-way between `n` and `n` + 1 is near the exact one. -/
theorem fixed_cross_near {n x y : Nat} (hn : n < 900) (hx : x ≤ 600) (hy : y ≤ 600) :
    let v : ℝ := n + 1 / 2
    |(x * (fixedSin (2 * n + 1) / 10 ^ 18) - y * (fixedCos (2 * n + 1) / 10 ^ 18) : ℝ)
        - (x * Real.sin (v * Real.pi / 1800) - y * Real.cos (v * Real.pi / 1800))| ≤ 1200 / 10 ^ 9 := by
  intro v
  obtain ⟨nc, ns⟩ := fixedCos_near (h := 2 * n + 1) (by omega)
  have angle : ((2 * n + 1 : ℕ) : ℝ) * (Real.pi / 3600) = v * Real.pi / 1800 := by push_cast; ring
  rw [angle] at nc ns
  rify at hx hy
  have es : |x * (fixedSin (2 * n + 1) / 10 ^ 18 - Real.sin (v * Real.pi / 1800))| ≤ (600 * (1 / 10 ^ 9) : ℝ) := by
    rw [abs_mul, Nat.abs_cast]
    exact mul_le_mul hx ns (abs_nonneg _) (by norm_num)
  have ec : |y * (fixedCos (2 * n + 1) / 10 ^ 18 - Real.cos (v * Real.pi / 1800))| ≤ (600 * (1 / 10 ^ 9) : ℝ) := by
    rw [abs_mul, Nat.abs_cast]
    exact mul_le_mul hy nc (abs_nonneg _) (by norm_num)
  obtain ⟨es1, es2⟩ := abs_le.mp es
  obtain ⟨ec1, ec2⟩ := abs_le.mp ec
  rw [abs_le]
  constructor <;> linarith

/-- The fixed-point comparison with a boundary of the quadrant says on which side of it the exact direction stands. -/
theorem boundary_side {n x y : Nat} {u : ℝ} (hn : n < 900) (hx0 : 0 < x) (hx : x ≤ 600) (hy : y ≤ 600) (hu : 0 ≤ u)
    (hu' : u ≤ 900) (h : PointsAt x y u) :
    (x * fixedSin (2 * n + 1) ≤ y * fixedCos (2 * n + 1) → (n : ℝ) + 1 / 2 < u)
      ∧ (y * fixedCos (2 * n + 1) < x * fixedSin (2 * n + 1) → u < (n : ℝ) + 1 / 2) := by
  obtain ⟨near1, near2⟩ := abs_le.mp (fixed_cross_near hn hx hy)
  have gap := boundary_gap hn (Nat.add_pos_left hx0 y) hx hy
  have hn' : (n : ℝ) + 1 ≤ 900 := by exact_mod_cast hn
  constructor
  · intro past
    have g := gap.resolve_right (by unfold sideGap; omega)
    rify [sideGap] at g
    exact h.lt_of_cross_neg hu (by linarith) (by linarith)
  · intro before
    have g := gap.resolve_left (by unfold sideGap; omega)
    rify [sideGap] at g
    exact h.lt_of_cross_pos (by positivity) hu' (by linarith)

/-- The vector (x, y) has a direction that rounds to `n`, and not from half-way. -/
def PointsNear (x y : ℝ) (n : Nat) : Prop := ∃ u, PointsAt x y u ∧ |u - (n : ℝ)| < 1 / 2

/-- A quarter turn of the vector adds 900. -/
theorem PointsNear.quarter_turn {x y : ℝ} {turns n : Nat} (h : PointsNear x y (turns * 900 + n)) :
    PointsNear (-y) x ((turns + 1) * 900 + n) := by
  obtain ⟨u, ⟨ρ, hρ, rfl, rfl⟩, near⟩ := h
  have e : (u + 900) * Real.pi / 1800 = u * Real.pi / 1800 + Real.pi / 2 := by ring
  refine ⟨u + 900, ⟨ρ, hρ, ?_, ?_⟩, ?_⟩
  · rw [e, Real.cos_add_pi_div_two, mul_neg]
  · rw [e, Real.sin_add_pi_div_two]
  · convert near using 2
    push_cast; ring

/-- A direction may be reduced into 0..3599. -/
theorem PointsNear.mod {x y : ℝ} {n : Nat} (h : PointsNear x y n) : PointsNear x y (n % 3600) := by
  obtain ⟨u, ⟨ρ, hρ, rfl, rfl⟩, near⟩ := h
  have hn : (n : ℝ) = (n % 3600 : Nat) + 3600 * (n / 3600 : Nat) := by exact_mod_cast (Nat.mod_add_div n 3600).symm
  have e : (u - 3600 * (n / 3600 : Nat)) * Real.pi / 1800 = u * Real.pi / 1800 - (n / 3600 : Nat) * (2 * Real.pi) := by ring
  refine ⟨u - 3600 * (n / 3600 : Nat), ⟨ρ, hρ, ?_, ?_⟩, ?_⟩
  · rw [e, Real.cos_sub_nat_mul_two_pi]
  · rw [e, Real.sin_sub_nat_mul_two_pi]
  · rwa [hn, ← sub_sub, sub_right_comm] at near

/-- The test of the search of `quadrantDirection`: the vector is at or past the boundary below `n`. -/
def atOrPast (x y n : Nat) : Bool := n ≤ 900 && x * fixedSin (2 * n - 1) ≤ y * fixedCos (2 * n - 1)

/-- The boundary below 0 is passed. -/
theorem atOrPast_zero (x y : Nat) : atOrPast x y 0 = true := by
  have : fixedSin (2 * 0 - 1) = 0 := by decide +kernel
  rw [atOrPast, this, Nat.mul_zero]
  simp

/-- The boundary below `n` + 1 is the one half-way from `n`. -/
theorem atOrPast_succ (x y n : Nat) :
    atOrPast x y (n + 1) = true ↔ n < 900 ∧ x * fixedSin (2 * n + 1) ≤ y * fixedCos (2 * n + 1) := by
  rw [atOrPast, show 2 * (n + 1) - 1 = 2 * n + 1 by omega, Bool.and_eq_true, decide_eq_true_eq, decide_eq_true_eq,
    Nat.succ_le_iff]

/-- The direction found in the first quadrant is past the boundary below it and not past the one above it. -/
theorem quadrantDirection_spec (x y : Nat) :
    atOrPast x y (quadrantDirection x y) = true ∧ atOrPast x y (quadrantDirection x y + 1) = false :=
  largest_spec (atOrPast_zero x y) rfl

/-- The direction found in the first quadrant is the rounded one. -/
theorem quadrantDirection_near {x y : Nat} (hx0 : 0 < x) (hx : x ≤ 600) (hy : y ≤ 600) :
    PointsNear x y (quadrantDirection x y) := by
  obtain ⟨u, hu, hu', h⟩ := exists_pointsAt (x := x) (y := y) (by exact_mod_cast hx0) (Nat.cast_nonneg y)
  obtain ⟨found, next⟩ := quadrantDirection_spec x y
  generalize quadrantDirection x y = q at found next ⊢
  have lower : (q : ℝ) - 1 / 2 < u := by
    cases q with
    | zero => rw [Nat.cast_zero]; linarith
    | succ k =>
      obtain ⟨hk, past⟩ := (atOrPast_succ x y k).mp found
      have := (boundary_side hk hx0 hx hy hu hu' h).1 past
      rw [Nat.cast_succ]; linarith
  have upper : u < (q : ℝ) + 1 / 2 := by
    rcases lt_or_ge q 900 with hq | hq
    · refine (boundary_side hq hx0 hx hy hu hu' h).2 (not_le.mp fun past => ?_)
      exact absurd ((atOrPast_succ x y q).mpr ⟨hq, past⟩) (Bool.eq_false_iff.mp next)
    · have : (900 : ℝ) ≤ q := by exact_mod_cast hq
      linarith
  exact ⟨u, h, abs_lt.mpr ⟨by linarith, by linarith⟩⟩

/-- The same for components that are integers, as `directionOf` uses it after no quarter turn. -/
theorem quadrantDirection_near_int {x y : Int} (hx0 : 0 < x) (hx : x ≤ 600) (hy0 : 0 ≤ y) (hy : y ≤ 600) :
    PointsNear x y (0 * 900 + quadrantDirection x.toNat y.toNat) := by
  lift x to Nat using hx0.le
  lift y to Nat using hy0
  rw [Nat.zero_mul, Nat.zero_add]
  exact quadrantDirection_near (by omega) (by omega) (by omega)

/-- The direction is reduced into 0..3599. -/
theorem directionOf_le (f l : Int) : directionOf f l ≤ 3599 := by
  have reduced (n : Nat) : n % 3600 ≤ 3599 := Nat.le_of_lt_succ (Nat.mod_lt n (by decide))
  unfold directionOf
  split_ifs
  · exact reduced _
  · exact reduced _
  · exact reduced _
  · exact reduced _
  · exact Nat.zero_le _

/-- The direction of a vector is the rounded one in every quadrant: the first quadrant's after quarter turns. -/
theorem directionOf_near {f l : Int} (f1 : -600 ≤ f) (f2 : f ≤ 600) (l1 : -600 ≤ l) (l2 : l ≤ 600) (h : ¬(f = 0 ∧ l = 0)) :
    PointsNear f l (directionOf f l) := by
  unfold directionOf
  split_ifs with first second third fourth
  · exact (quadrantDirection_near_int first.1 f2 first.2 l2).mod
  · have near := quadrantDirection_near_int second.2 l2 (y := -f) (by omega) (by omega)
    have turned := near.quarter_turn.mod
    rwa [Int.cast_neg, neg_neg] at turned
  · have near := quadrantDirection_near_int (x := -f) (y := -l) (by omega) (by omega) (by omega) (by omega)
    have turned := near.quarter_turn.quarter_turn.mod
    rwa [Int.cast_neg, Int.cast_neg, neg_neg, neg_neg] at turned
  · have near := quadrantDirection_near_int (x := -l) (y := f) (by omega) (by omega) fourth.1 f2
    have turned := near.quarter_turn.quarter_turn.quarter_turn.mod
    rwa [neg_neg, Int.cast_neg, neg_neg] at turned
  · omega

/-- The fall sector is the difference reduced into a turn, in twelfths (R10). -/
theorem fallSectorOf_eq {slew az : Nat} (haz : az ≤ 3599) :
    (fallSectorOf slew az : Int) = ((slew : Int) - (az : Int)) % 3600 / 300 ∧ fallSectorOf slew az ≤ 11 := by
  unfold fallSectorOf
  omega

/-- Settles O33: the boundary tests of the search stand on the right side of the exact direction. -/
theorem fallAzimuthPointsDownhill : Obligations.FallAzimuthPointsDownhill := by
  refine ⟨fun _ _ _ h => if_neg h.not_ge, ?_, fun _ _ _ haz => fallSectorOf_eq haz, fun _ _ _ => ⟨rfl, rfl⟩⟩
  intro tilt p r ht p1 p2 r1 r2 hne
  obtain ⟨u, ⟨ρ, hρ, hx, hy⟩, near⟩ :=
    directionOf_near (f := -p) (l := -r) (by omega) (by omega) (by omega) (by omega) (by omega)
  rw [Int.cast_neg] at hx hy
  exact ⟨directionOf (-p) (-r), if_pos ht, directionOf_le _ _, ρ, u, hρ, hx, hy, near⟩

end Sys2Proof.Machine

/-! PROOFS. The overload filter of the Capacity Monitor (spec/02) -/

namespace Sys2Proof.Machine

/-! ### The filter in each of its states (R28, R29) -/

/-- In NORMAL the overload count alone moves, until it reaches its filter setting (R28). -/
theorem filterStep_normal {b : TableSet} {u : Nat} {m : CapacityMonitor} (h : m.overload = .normal) :
    filterStep b u m
      = if 1000 < u then
          (if b.setting .overloadFilter ≤ countUp m.overloadCount then ⟨.overload, 0, 0⟩
          else { m with overloadCount := countUp m.overloadCount })
        else { m with overloadCount := 0 } := by
  simp only [filterStep, h]

/-- In OVERLOAD the release count alone moves, until it reaches its filter setting (R29). -/
theorem filterStep_overload {b : TableSet} {u : Nat} {m : CapacityMonitor} (h : m.overload = .overload) :
    filterStep b u m
      = if (u : Int) ≤ releaseThreshold b then
          (if b.setting .releaseFilter ≤ countUp m.releaseCount then ⟨.normal, 0, 0⟩
          else { m with releaseCount := countUp m.releaseCount })
        else { m with releaseCount := 0 } := by
  simp only [filterStep, h]

/-! ### The count of the other state -/

/-- The count that the overload state does not use is 0. -/
def CapacityMonitor.OtherCountZero (m : CapacityMonitor) : Prop :=
  (m.overload = .normal → m.releaseCount = 0) ∧ (m.overload = .overload → m.overloadCount = 0)

/-- In NORMAL it is the release count. -/
theorem CapacityMonitor.OtherCountZero.of_normal {m : CapacityMonitor} (h : m.overload = .normal)
    (unused : m.releaseCount = 0) : m.OtherCountZero :=
  ⟨fun _ => unused, fun h' => absurd (h.symm.trans h') (by decide)⟩

/-- In OVERLOAD it is the overload count. -/
theorem CapacityMonitor.OtherCountZero.of_overload {m : CapacityMonitor} (h : m.overload = .overload)
    (unused : m.overloadCount = 0) : m.OtherCountZero :=
  ⟨fun h' => absurd (h.symm.trans h') (by decide), fun _ => unused⟩

/-- A step that stays in its state leaves the other count alone, and a change of state sets both counts to 0. -/
theorem filterStep_otherCountZero (b : TableSet) (u : Nat) {m : CapacityMonitor} (hm : m.OtherCountZero) :
    (filterStep b u m).OtherCountZero := by
  obtain ⟨inNormal, inOverload⟩ := hm
  cases h : m.overload with
  | normal =>
    rw [filterStep_normal h]
    split_ifs
    · exact .of_overload rfl rfl
    · exact .of_normal h (inNormal h)
    · exact .of_normal h (inNormal h)
  | overload =>
    rw [filterStep_overload h]
    split_ifs
    · exact .of_normal rfl rfl
    · exact .of_overload h (inOverload h)
    · exact .of_overload h (inOverload h)

/-- Settles O36: the filter's equation in each state, and the count of the other state by cases on the state and on the
branch taken. -/
theorem overloadFilterCounts : Obligations.OverloadFilterCounts := fun b u _ =>
  ⟨filterStep_normal, filterStep_overload, rfl, filterStep_otherCountZero b u⟩

end Sys2Proof.Machine

/-! PROOFS. The valve enable under every event: VEN keeps to the guard state and the force test (spec/03, R38) -/

namespace Sys2Proof.Machine

/-! ### VEN as a level -/

/-- The level is asserted in HOLD, ENFORCE and SERVICE with the force test off (R38). -/
theorem venLevel_iff (g : GuardState) (test : Bool) :
    venLevel g test = true ↔ (g = .hold ∨ g = .enforce ∨ g = .service) ∧ test = false := by
  simp [venLevel, or_assoc]

/-- The invariant in the terms of the level that the guard drives (R38). -/
theorem State.venOk_iff (s : State) : s.VenOk ↔ s.guard.ven = venLevel s.guard.state s.guard.forceTest := by
  rw [State.VenOk, ← venLevel_iff, ← Bool.eq_iff_iff]

/-- The invariant looks at the guard state, the force test and VEN alone. -/
theorem State.VenOk.of_enable_eq {s t : State} (h : s.VenOk) (state : t.guard.state = s.guard.state)
    (test : t.guard.forceTest = s.guard.forceTest) (ven : t.guard.ven = s.guard.ven) : t.VenOk := by
  unfold State.VenOk at h ⊢
  rwa [state, test, ven]

/-- An operation that leaves the guard keeps the invariant. -/
theorem State.VenOk.of_guard_eq {s t : State} (h : s.VenOk) (guard : t.guard = s.guard) : t.VenOk :=
  h.of_enable_eq (by rw [guard]) (by rw [guard]) (by rw [guard])

/-- Either reset leaves the invariant true: BLOCKED with VEN deasserted (R64). -/
theorem State.venOk_of_reset {s : State} (guard : s.guard = EnvelopeGuard.reset) : s.VenOk := by
  rw [State.venOk_iff, guard]
  rfl

/-! ### The operations that move the guard -/

/-- Every change of guard state drives VEN, and a state entered from itself changes nothing (R37, R38). -/
theorem State.VenOk.enterGuard {s : State} (h : s.VenOk) (g : GuardState) (byExpiry : Bool) :
    (s.enterGuard g byExpiry).VenOk := by
  by_cases same : s.guard.state = g
  · rwa [State.enterGuard_same same]
  · rw [State.venOk_iff, State.enterGuard_guard same]
    rfl

/-- Turning the force test on or off drives VEN (R38, R50). -/
theorem State.VenOk.setForceTest {s : State} (h : s.VenOk) (on : Bool) : (s.setForceTest on).VenOk := by
  unfold State.setForceTest
  split
  · exact h
  · rw [State.venOk_iff]
    simp [State.driveVen]

/-- A tip position restarts the watch, counts the warm-up and may enter ENFORCE (R40, R41). -/
theorem State.VenOk.guardTake {s : State} (h : s.VenOk) : s.guardTake.VenOk := by
  unfold State.guardTake
  split
  case h_1 =>
    dsimp only
    split
    · apply State.VenOk.enterGuard
      exact h.of_enable_eq rfl rfl rfl
    · exact h.of_enable_eq rfl rfl rfl
  all_goals exact h.of_enable_eq rfl rfl rfl

/-- An expiry enters HOLD from ENFORCE and stays in HOLD (R42). -/
theorem State.VenOk.watchExpiry {s : State} (h : s.VenOk) : s.watchExpiry.VenOk := by
  unfold State.watchExpiry
  split
  case h_1 =>
    apply State.VenOk.enterGuard
    exact h.of_enable_eq rfl rfl rfl
  case h_2 => exact h.of_enable_eq rfl rfl rfl
  all_goals exact h

/-- The fall of the service key enters BLOCKED from SERVICE (R47). -/
theorem State.VenOk.keyLost {s : State} (h : s.VenOk) : s.keyLost.VenOk := by
  have released : ({ s with pins := { s.pins with skey := false } } : State).VenOk := h
  unfold State.keyLost
  dsimp only
  split
  · exact (released.enterGuard .blocked false).of_guard_eq (by simp)
  · exact released

/-- A complete set reaches the guard as a tip position (R3). -/
theorem State.VenOk.deliver {s : State} (h : s.VenOk) (x : SampleSet) : (s.deliver x).VenOk := by
  have record : (s.takeRecord (geometryRecord s.banks.active s.lift.tare x)).VenOk := h.of_guard_eq (by simp)
  rw [State.deliver_eq]
  exact record.guardTake.of_guard_eq (by simp)

/-- A SAMPLE frame moves the guard only by the set it completes (R126). -/
theorem State.VenOk.snoop {s : State} (h : s.VenOk) (f : Frame) : (s.snoop f).VenOk := by
  unfold State.snoop
  split
  · dsimp only
    split
    · split
      · apply State.VenOk.deliver
        exact h.of_guard_eq rfl
      · exact h.of_guard_eq rfl
    · exact h
  · exact h

/-- A lost set touches the warm-up count alone (R40, R128). -/
theorem State.VenOk.takeSync {s : State} (h : s.VenOk) (sequence : Byte) : (s.takeSync sequence).VenOk := by
  have lost : s.reportLost.VenOk := by
    unfold State.reportLost EnvelopeGuard.lostSet
    split <;> exact h.of_enable_eq rfl rfl rfl
  unfold State.takeSync
  dsimp only
  split
  · exact lost.of_guard_eq rfl
  · exact h

/-- Filtering a DEMAND frame writes the limit flags and the quiet flag (R60, R61, R62). -/
theorem State.VenOk.guardDemand {s : State} (h : s.VenOk) (f : Frame) : (s.guardDemand f).VenOk := by
  rw [State.guardDemand_eq]
  split
  · exact h
  · generalize s.filterDemands (demandsOf f.payload) = out
    have written : ((s.writeFlags out).latchZoneStop out).VenOk := by
      refine State.VenOk.of_guard_eq (s := s.writeFlags out) ?_ (by simp)
      unfold State.writeFlags
      split
      · exact h
      · exact h.of_enable_eq rfl rfl rfl
    rw [State.joinFiltered_eq]
    split
    · split
      · exact written.of_enable_eq (by simp) (by simp) (by simp)
      · exact written.of_enable_eq rfl rfl rfl
    · exact written.of_guard_eq (by simp)

/-! ### The commands -/

/-- The commands that the Envelope Guard carries out (R39, R44 to R50). -/
def guardCommands : List CommandId := [.guardStart, .guardStop, .serviceEnter, .serviceExit, .park, .parkExit, .forceTest]

/-- Every other command leaves the guard as it is. -/
theorem judgeCommand_guard {c : CommandId} (other : c ∉ guardCommands) (windowOpen : Bool) (args : Bytes)
    (s : State) : (judgeCommand windowOpen c args s).state.guard = s.guard := by
  cases c
  case guardStart | guardStop | serviceEnter | serviceExit | park | parkExit | forceTest => simp [guardCommands] at other
  all_goals
    simp only [judgeCommand, judgeAssignAddress, judgeReadStatus, judgeClearConditions, judgeTableWrite, judgeTableData,
      judgeTableRead, judgeCommit, judgeCancelCommit, judgeStore, judgeReload, judgeSelectAssortment, judgeTare,
      judgeFetchLift, judgeReadTally, judgeClearTally, judgeLineReset, State.done, State.accept, State.refuse]
    (repeat' split) <;> simp

/-- A guard command is refused, enters a guard state or sets the force test (R39, R44 to R50). -/
theorem State.VenOk.judgeGuardCommand {s : State} (h : s.VenOk) {c : CommandId} (guard : c ∈ guardCommands)
    (windowOpen : Bool) (args : Bytes) : (judgeCommand windowOpen c args s).state.VenOk := by
  cases c
  case guardStart =>
    simp only [Machine.judgeCommand, judgeGuardStart]
    split_ifs
    exacts [h, h, h, h, h.enterGuard .hold false]
  case guardStop =>
    simp only [Machine.judgeCommand, judgeGuardStop]
    split_ifs
    exacts [h, h.enterGuard .blocked false]
  case serviceEnter =>
    simp only [Machine.judgeCommand, judgeServiceEnter]
    split_ifs
    exacts [h, h, h, h.enterGuard .service false]
  case serviceExit =>
    simp only [Machine.judgeCommand, judgeServiceExit]
    split_ifs
    exacts [h, h, h.enterGuard .blocked false]
  case park =>
    simp only [Machine.judgeCommand, judgePark]
    split_ifs
    exacts [h, h.enterGuard .park false]
  case parkExit =>
    simp only [Machine.judgeCommand, judgeParkExit]
    split_ifs
    exacts [h, h, h.enterGuard .hold false, h.enterGuard .blocked false]
  case forceTest =>
    simp only [Machine.judgeCommand, judgeForceTest]
    split_ifs
    exacts [h, h.setForceTest false, h.setForceTest true, h]
  all_goals simp [guardCommands] at guard

/-- Carrying out any command keeps the invariant. -/
theorem State.VenOk.judgeCommand {s : State} (h : s.VenOk) (windowOpen : Bool) (c : CommandId) (args : Bytes) :
    (judgeCommand windowOpen c args s).state.VenOk := by
  by_cases guard : c ∈ guardCommands
  · exact h.judgeGuardCommand guard windowOpen args
  · exact h.of_guard_eq (judgeCommand_guard guard windowOpen args s)

/-- Carrying out what a payload calls for keeps the invariant. -/
theorem State.VenOk.judgePayload {s : State} (h : s.VenOk) (windowOpen : Bool) (payload : Bytes) :
    (judgePayload windowOpen payload s).state.VenOk := by
  unfold Machine.judgePayload
  cases commandOfPayload payload with
  | some c => exact h.judgeCommand windowOpen c _
  | none => exact h

/-! ### Frames -/

/-- A COMMAND frame moves the guard only by the judgement of its command, on a state with the same guard. -/
theorem CommandEffect.guard_cases {f : Frame} {judge : State → Answer} {s t : State} (effect : CommandEffect f judge s t) :
    t.guard = s.guard ∨ ∃ u : State, u.guard = s.guard ∧ t.guard = (judge u).state.guard := by
  cases effect with
  | discarded => exact .inl rfl
  | bad => exact .inl (by simp)
  | lost => exact .inl (by simp)
  | forwarded => exact .inl (by simp)
  | taken => exact .inr ⟨s.windowStep f.payload, by simp, by simp [takeCommand]⟩
  | broadcast => exact .inr ⟨s.windowStep f.payload, by simp, by simp⟩

/-- A COMMAND frame at the Cab Port keeps the invariant where carrying out its command does. -/
theorem State.VenOk.cabCommand {s : State} (h : s.VenOk) (f : Frame) {judge : State → Answer}
    (kept : ∀ u : State, u.VenOk → (judge u).state.VenOk) : (cabPort f (routeCommand f judge) s).VenOk := by
  obtain same | ⟨u, before, after⟩ := (cabPort_command_effect f judge s).guard_cases
  · exact h.of_guard_eq same
  · exact (kept u (h.of_guard_eq before)).of_guard_eq after

/-- A frame at the Cab Port that is not bad and not discarded goes where it is routed (R104, R105). -/
theorem State.VenOk.cabPort {s : State} (h : s.VenOk) (f : Frame) {route : State → State} (routed : (route s).VenOk) :
    (cabPort f route s).VenOk := by
  unfold Machine.cabPort
  split_ifs
  exacts [h.of_guard_eq (by simp), h, routed]

/-- A frame at the Crane Port that is not bad goes where it is routed (R104). -/
theorem State.VenOk.cranePort {s : State} (h : s.VenOk) (f : Frame) {route : State → State} (routed : (route s).VenOk) :
    (cranePort f route s).VenOk := by
  unfold Machine.cranePort
  split_ifs
  exacts [h.of_guard_eq (by simp), routed]

/-- SYNC frames (R125). -/
theorem State.VenOk.routeSync {s : State} (h : s.VenOk) (f : Frame) : (routeSync f s).VenOk := by
  unfold Machine.routeSync
  split
  · exact h
  · split
    · exact (h.takeSync (f.payload.headD 0)).of_guard_eq (by simp)
    · exact h.of_guard_eq (by simp)

/-- DEMAND frames (R110). -/
theorem State.VenOk.routeDemand {s : State} (h : s.VenOk) (f : Frame) : (routeDemand f s).VenOk := by
  unfold Machine.routeDemand
  split
  · exact h
  · split
    · exact h.guardDemand f
    · exact h.of_guard_eq (by simp)

/-- SAMPLE frames (R112, R126). -/
theorem State.VenOk.routeSample {s : State} (h : s.VenOk) (f : Frame) : (routeSample f s).VenOk := by
  unfold Machine.routeSample
  split
  · exact h
  · exact (h.snoop f).of_guard_eq (by simp)

/-- Any good frame at the Cab Port, by its class (R109). -/
theorem State.VenOk.cabFrame {s : State} (h : s.VenOk) (f : Frame) :
    (Machine.cabPort f (routeCab f) s).VenOk := by
  by_cases command : f.cls = classCommand
  · have routed : Machine.cabPort f (routeCab f) s
        = Machine.cabPort f (routeCommand f (Machine.judgePayload s.unit.window.isSome f.payload)) s := by
      simp only [Machine.cabPort, routeCab, if_pos command]
    rw [routed]
    exact h.cabCommand f fun u hu => hu.judgePayload _ _
  · refine h.cabPort f ?_
    unfold routeCab routeOtherCrane
    rw [if_neg command]
    split_ifs
    · exact h.routeSync f
    · exact h.routeDemand f
    · split
      · exact h
      · exact h.of_guard_eq (by simp)

/-- Any good frame at the Crane Port, by its class (R112). -/
theorem State.VenOk.routeCrane {s : State} (h : s.VenOk) (f : Frame) : (routeCrane f s).VenOk := by
  unfold Machine.routeCrane
  split
  · exact h.routeSample f
  · split
    · exact h
    · split
      · exact h
      · exact h.of_guard_eq (by simp)

/-- What a receiver collects at the Cab Port (R104). -/
theorem State.VenOk.cabReception {s : State} (h : s.VenOk) (rx : List RxByte) (pins : Pins) :
    (cabReception rx pins s).VenOk := by
  unfold Machine.cabReception
  split
  · exact h
  · split
    · exact h.of_guard_eq (by simp)
    · exact State.VenOk.cabFrame (h.of_guard_eq (by simp)) _

/-- What a receiver collects at the Crane Port (R104). -/
theorem State.VenOk.craneReception {s : State} (h : s.VenOk) (rx : List RxByte) : (craneReception rx s).VenOk := by
  unfold Machine.craneReception
  split
  · exact h
  · split
    · exact h.of_guard_eq (by simp)
    · exact h.cranePort _ (h.routeCrane _)

/-! ### Events -/

/-- The row of a command judges the command on the state with its pins sampled. -/
theorem exec_commandRow (c : CommandId) (p : Packet) (pins : Pins) (s : State) :
    exec (commandRow c p pins) s
      = commandEvent (commandFrame c p) (judgeCommand s.unit.window.isSome c p.body) (s.sampledFor c pins) := by
  cases c <;> rfl

/-- Sampling the pins leaves the guard. -/
@[simp] theorem State.sampledFor_guard (s : State) (c : CommandId) (pins : Pins) :
    (s.sampledFor c pins).guard = s.guard := by
  unfold State.sampledFor
  split <;> simp

/-- The end of an event drives ATTN, which leaves the guard. -/
theorem State.VenOk.of_finish {s t : State} (h : s.VenOk) (ran : finish s = .next t) : t.VenOk := by
  cases ran
  exact h.of_guard_eq (by simp)

/-- The row of every command keeps the invariant. -/
theorem State.VenOk.of_commandRow {s t : State} (h : s.VenOk) (c : CommandId) (p : Packet) (pins : Pins)
    (ran : exec (commandRow c p pins) s = .next t) : t.VenOk := by
  rw [exec_commandRow] at ran
  have sampled : (s.sampledFor c pins).VenOk := h.of_guard_eq (by simp)
  exact (sampled.cabCommand _ fun u hu => hu.judgeCommand _ _ _).of_finish ran

/-- A frame that departs from the cab-bound queue may make the line reset take effect (R113, R161). -/
theorem State.VenOk.cabDeparts {s : State} (h : s.VenOk) : s.cabDeparts.VenOk := by
  unfold State.cabDeparts
  split
  · exact h
  · split
    · exact State.venOk_of_reset rfl
    · exact h.of_guard_eq (by simp)

/-- Every command keeps VEN as the guard state and the force test give it (R38). -/
theorem State.VenOk.of_exec {s t : State} (h : s.VenOk) (i : Instr) (ran : exec i s = .next t) : t.VenOk := by
  cases i with
  | assignAddress p csi => exact h.of_commandRow .assignAddress p ⟨csi, false⟩ ran
  | readStatus p => exact h.of_commandRow .readStatus p s.pins ran
  | clearConditions p => exact h.of_commandRow .clearConditions p s.pins ran
  | guardStart p => exact h.of_commandRow .guardStart p s.pins ran
  | guardStop p => exact h.of_commandRow .guardStop p s.pins ran
  | serviceEnter p skey => exact h.of_commandRow .serviceEnter p ⟨false, skey⟩ ran
  | serviceExit p => exact h.of_commandRow .serviceExit p s.pins ran
  | park p => exact h.of_commandRow .park p s.pins ran
  | parkExit p => exact h.of_commandRow .parkExit p s.pins ran
  | forceTest p => exact h.of_commandRow .forceTest p s.pins ran
  | tableWrite p => exact h.of_commandRow .tableWrite p s.pins ran
  | tableData p => exact h.of_commandRow .tableData p s.pins ran
  | tableRead p => exact h.of_commandRow .tableRead p s.pins ran
  | commit p => exact h.of_commandRow .commit p s.pins ran
  | cancelCommit p => exact h.of_commandRow .cancelCommit p s.pins ran
  | store p => exact h.of_commandRow .store p s.pins ran
  | reload p => exact h.of_commandRow .reload p s.pins ran
  | selectAssortment p => exact h.of_commandRow .selectAssortment p s.pins ran
  | tare p => exact h.of_commandRow .tare p s.pins ran
  | fetchLift p => exact h.of_commandRow .fetchLift p s.pins ran
  | readTally p => exact h.of_commandRow .readTally p s.pins ran
  | clearTally p => exact h.of_commandRow .clearTally p s.pins ran
  | lineReset p => exact h.of_commandRow .lineReset p s.pins ran
  | unknownCommand p => exact (h.cabCommand _ fun u hu => hu.judgePayload _ _).of_finish ran
  | cabPortFrame rx pins => exact (h.cabReception rx pins).of_finish ran
  | cranePortFrame rx => exact (h.craneReception rx).of_finish ran
  | demand p => exact (h.cabPort _ (h.routeDemand _)).of_finish ran
  | sync p => exact (h.cabPort _ (h.routeSync _)).of_finish ran
  | sample p => exact (h.cranePort _ (h.routeSample _)).of_finish ran
  | frameDeparts port =>
    cases port with
    | cab => exact h.cabDeparts.of_finish ran
    | crane => exact State.VenOk.of_finish (h.of_guard_eq (by simp)) ran
  | replyJoinsQueue => exact State.VenOk.of_finish (h.of_guard_eq (by simp)) ran
  | lineResetTakesEffect =>
    refine State.VenOk.of_finish ?_ ran
    split
    · exact State.venOk_of_reset rfl
    · exact h
  | powerOnReset => exact (State.venOk_of_reset rfl).of_finish ran
  | imageReadEnd =>
    refine State.VenOk.of_finish (h.of_guard_eq ?_) ran
    split <;> simp
  | storeEnd left =>
    refine State.VenOk.of_finish (h.of_guard_eq ?_) ran
    split <;> simp
  | reloadEnd =>
    refine State.VenOk.of_finish (h.of_guard_eq ?_) ran
    split <;> simp
  | watchExpiry => exact h.watchExpiry.of_finish ran
  | skeyDeassert => exact h.keyLost.of_finish ran
  | pendingCommitSwap => exact State.VenOk.of_finish (h.of_guard_eq (by simp)) ran
  | liftTimerTick =>
    refine State.VenOk.of_finish (h.of_guard_eq ?_) ran
    split <;> rfl
  | workTimerTick =>
    refine State.VenOk.of_finish (h.of_guard_eq ?_) ran
    split <;> rfl
  | nonvolatileContentLoss lost =>
    cases ran
    exact h.of_guard_eq rfl

/-- Settles O53: an idle step changes nothing, and every command keeps the invariant. -/
theorem enableKept : Obligations.EnableKept := by
  intro s t h ran
  unfold step at ran
  split at ran
  · cases ran
    exact h
  · next rest _ =>
    have taken : ({ s with pending := rest } : State).VenOk := h
    exact taken.of_exec _ ran

end Sys2Proof.Machine

/-! PROOFS. The Envelope Guard's start, force test, sample watch and warm-up (spec/03, 3.1 to 3.4) -/

namespace Sys2Proof.Machine

/-! ### Entering HOLD with no lift and no commit (R37, R39) -/

/-- Without a lift the Lift Unit has nothing to mark on entry into HOLD (R75). -/
theorem LiftUnit.enterHold_of_empty {u : LiftUnit} (empty : u.state = .empty) : u.enterHold = u := by
  simp [LiftUnit.enterHold, empty]

/-- From another state, with no lift in progress and no commit pending, entry into HOLD touches the guard alone: the entry
actions, the watch restarted, VEN as the force test lets it (R37, R38, R41). -/
theorem State.enterGuard_hold {s : State} (other : s.guard.state ≠ .hold) (empty : s.lift.state = .empty)
    (idle : s.banks.commit ≠ .pending) :
    s.enterGuard .hold false
      = { s with
          guard := { s.guard with
            state := .hold
            quiet := true
            limitFlags := List.replicate 8 .passed
            warmUp := 0
            watch := some (s.banks.active.setting .staleTimeout)
            ven := !s.guard.forceTest } } := by
  rw [State.enterGuard, if_neg other, State.attemptSwap_none (by simpa using idle)]
  simp [State.liftGuardChange, LiftUnit.enterHold_of_empty empty, openSetAfterEntry, watchAfterEntry,
    EnvelopeGuard.enter, allPassed, venLevel]

/-- Settles O19: the tests of GUARD_START are the model's own in the same order, and past them the guard was BLOCKED, so
that no lift is in progress. -/
theorem guardStartEntersHold : Obligations.GuardStartEntersHold := by
  intro s p takes lift body
  have empty : s.guard.state = .blocked → s.lift.state = .empty := fun blocked => lift.1 (.inl blocked)
  change commandEvent (commandFrame .guardStart p) (judgeGuardStart p.body) s = _
  rw [commandEvent_closed _ (by decide) takes (by simp [body]), body, judgeGuardStart, if_neg (by simp)]
  simp only [State.closeWindow_frame]
  split_ifs with started pending invalid
  · rfl
  · rfl
  · rfl
  · have blocked : s.guard.state = .blocked := not_not.mp started
    rw [State.enterGuard_hold (by simp [blocked]) (by simpa using empty blocked) (by simpa using pending)]
    rfl

/-! ### The force test (R50) -/

/-- Set to what it is, the force test changes nothing (R50). -/
theorem State.setForceTest_same {s : State} {on : Bool} (h : s.guard.forceTest = on) : s.setForceTest on = s := by
  rw [State.setForceTest, if_pos h]

/-- Turned on, the test deasserts VEN and FORCED latches (R38, R50). -/
theorem State.setForceTest_on {s : State} (off : s.guard.forceTest = false) :
    s.setForceTest true
      = ({ s with guard := { s.guard with forceTest := true, ven := false } } : State).latch .forced := by
  simp [State.setForceTest, off, State.driveVen, venLevel, State.judge]

/-- Turned off, or off already, the test leaves VEN as the guard state gives it (R38, R50). -/
theorem State.setForceTest_off {s : State} (h : s.VenOk) :
    s.setForceTest false
      = { s with
          guard := { s.guard with
            forceTest := false
            ven := s.guard.state == .hold || s.guard.state == .enforce || s.guard.state == .service } } := by
  cases off : s.guard.forceTest with
  | false =>
    have level := s.venOk_iff.mp h
    rw [State.setForceTest_same off]
    simp only [off, venLevel, Bool.not_false, Bool.and_true] at level
    rw [← level, ← off]
  | true => simp [State.setForceTest, off, State.driveVen, venLevel, State.judge]

/-- Settles O22: the argument byte is 1, 0 or another, and each has its equation above. -/
theorem forceTestSwitchesEnable : Obligations.ForceTestSwitchesEnable := by
  intro s p x takes ven body
  have kept : s.closeWindow.VenOk := ven.of_guard_eq (by simp)
  change commandEvent (commandFrame .forceTest p) (judgeForceTest p.body) s = _
  rw [commandEvent_closed _ (by decide) takes (by simp [body]), body, judgeForceTest, if_neg (by simp)]
  have argument : u8At [x] 0 = x.toNat := rfl
  simp only [argument]
  by_cases on : x = 1
  · subst on
    cases test : s.guard.forceTest with
    | true => simp [State.setForceTest_same (s := s.closeWindow) (on := true) test]
    | false => simp [State.setForceTest_on (s := s.closeWindow) test]
  · by_cases off : x = 0
    · subst off
      simp [State.setForceTest_off kept]
    · have notOff : x.toNat ≠ 0 := fun h => off (BitVec.eq_of_toNat_eq h)
      have notOn : x.toNat ≠ 1 := fun h => on (BitVec.eq_of_toNat_eq h)
      rw [if_neg notOff, if_neg notOn, if_neg on, if_neg off]
      rfl

/-! ### The sample watch and the warm-up (R40 to R43) -/

/-- An expiry in ENFORCE (R42). -/
theorem State.watchExpiry_enforce {s : State} {d : Nat} (watch : s.guard.watch = some d)
    (state : s.guard.state = .enforce) : s.watchExpiry = s.watchExpires.enterGuard .hold true := by
  simp [State.watchExpiry, watch, state]

/-- An expiry in HOLD sets the warm-up back (R42). -/
theorem State.watchExpiry_hold {s : State} {d : Nat} (watch : s.guard.watch = some d) (state : s.guard.state = .hold) :
    s.watchExpiry
      = ({ s with guard := { s.guard with watch := none, stale := true, warmUp := 0 } } : State).latch .sampleStale := by
  simp only [State.watchExpiry, watch, state]
  rw [← state]
  rfl

/-- A tip position before the fourth of a warm-up (R40, R41, R43). -/
theorem State.guardTake_counts {s : State} (state : s.guard.state = .hold) (few : s.guard.warmUp + 1 < 4) :
    s.guardTake
      = { s with
          guard := { s.guard with
            stale := false
            watch := some (s.banks.active.setting .staleTimeout)
            warmUp := s.guard.warmUp + 1 } } := by
  simp only [State.guardTake, state]
  exact if_neg (Nat.not_le.mpr few)

/-- The fourth tip position of a warm-up (R40). -/
theorem State.guardTake_completes {s : State} (state : s.guard.state = .hold) (fourth : s.guard.warmUp + 1 = 4) :
    s.guardTake
      = ({ s with
          guard := { s.guard with
            stale := false
            watch := some (s.banks.active.setting .staleTimeout)
            warmUp := 4 } } : State).enterGuard .enforce false := by
  simp only [State.guardTake, state, fourth]
  rfl

/-- A tip position in ENFORCE restarts the watch (R41). -/
theorem State.guardTake_enforce {s : State} (state : s.guard.state = .enforce) :
    s.guardTake
      = { s with guard := { s.guard with stale := false, watch := some (s.banks.active.setting .staleTimeout) } } := by
  simp only [State.guardTake, state]

/-- A tip position in BLOCKED, SERVICE and PARK ends the SAMPLE_STALE cause (R43). -/
theorem State.guardTake_elsewhere {s : State} (notHold : s.guard.state ≠ .hold) (notEnforce : s.guard.state ≠ .enforce) :
    s.guardTake = { s with guard := { s.guard with stale := false } } := by
  unfold State.guardTake
  split
  case h_1 state => exact absurd state notHold
  case h_2 state => exact absurd state notEnforce
  all_goals rfl

/-- Settles O23, by the equations of an expiry and of a tip position in each guard state. -/
theorem sampleWatchAndWarmUp : Obligations.SampleWatchAndWarmUp := by
  refine ⟨fun s d watch => ⟨fun state => ?_, fun state => ?_⟩, fun s =>
    ⟨State.guardTake_counts, State.guardTake_completes, State.guardTake_enforce, State.guardTake_elsewhere⟩⟩
  · exact congrArg finish (State.watchExpiry_enforce watch state)
  · exact congrArg finish (State.watchExpiry_hold watch state)

end Sys2Proof.Machine

/-! PROOFS. The filtering of a demand in ENFORCE: the look-ahead point, and the first case that applies (spec/03, 3.6, 3.7) -/

namespace Sys2Proof.Machine

/-! ### The look-ahead point (R20, R34, R55) -/

/-- The joint that a motion kind moves moves by the step, and the other three stay (R20). -/
theorem lookAhead_eq (b : TableSet) (t : TipPosition) (slot : Nat) (d : Int) :
    let step := b.slotPolarity slot * d.sign * (b.slotLookStep slot : Int)
    (b.slotKind slot = .slew →
        lookAhead b t slot d
          = evaluatePoint b t (resolvePoint b t (((t.slew : Int) + step) % 3600).toNat t.a1 t.a2 t.ext))
      ∧ (b.slotKind slot = .boom →
        lookAhead b t slot d = evaluatePoint b t (resolvePoint b t t.slew (t.a1 + step) t.a2 t.ext))
      ∧ (b.slotKind slot = .jib →
        lookAhead b t slot d = evaluatePoint b t (resolvePoint b t t.slew t.a1 (t.a2 + step) t.ext))
      ∧ (b.slotKind slot = .ext →
        lookAhead b t slot d = evaluatePoint b t (resolvePoint b t t.slew t.a1 t.a2 (t.ext + step))) := by
  refine ⟨fun kind => ?_, fun kind => ?_, fun kind => ?_, fun kind => ?_⟩ <;>
    simp only [lookAhead, kind, jointDirection]

/-- A point is resolved against the active bank, with the tilt band of the tip, and evaluated with its net mass (R20, R34). -/
theorem evaluatedPoint_fields (b : TableSet) (t : TipPosition) (slew : Nat) (a1 a2 ext : Int) :
    let point := evaluatePoint b t (resolvePoint b t slew a1 a2 ext)
    point.reach = reachOf (b.setting .l1) (b.setting .l2) a1 a2 ext
      ∧ point.ring = ringOf point.reach ∧ point.sector = slew / 300
      ∧ point.zone = zoneOf b point.ring point.sector ∧ point.band = t.band
      ∧ point.fallSector = t.fallAzimuth.map (fun az => (slew + 3600 - az) % 3600 / 300)
      ∧ point.capacity = effectiveCapacity b point.reach point.ring point.band point.zone.derate point.fallSector
      ∧ point.utilization = point.capacity.map (fun c => utilizationOf c t.net) :=
  ⟨rfl, rfl, rfl, rfl, rfl, rfl, rfl, rfl⟩

/-! ### The cases of a demand (R55 to R59) -/

/-- The motion slots are those of the four motion kinds (R51). -/
theorem TableSet.isMotion_iff (b : TableSet) (slot : Nat) : b.isMotion slot = true ↔ b.slotKind slot ∈ motionKinds := by
  unfold TableSet.isMotion
  cases b.slotKind slot <;> decide

/-- A slot that is no motion slot. -/
theorem TableSet.isMotion_eq_false_iff (b : TableSet) (slot : Nat) :
    b.isMotion slot = false ↔ b.slotKind slot ∉ motionKinds := by
  rw [← b.isMotion_iff, Bool.not_eq_true]

/-- The tip stands in violation by its rule or by its band (R56). -/
theorem inViolation_iff (t : TipPosition) : inViolation t = true ↔ t.zone.rule = .noEntry ∨ t.band = .beyond := by
  simp [inViolation]

/-- In violation, a demand outside the tables that would reach further out is 0 (R56). -/
theorem outwards_iff (t : TipPosition) (reach : Nat) :
    (outOfTables t && decide (t.reach < reach)) = true ↔ (t.ring = .beyond ∨ t.band = .beyond) ∧ t.reach < reach := by
  simp [outOfTables]

/-- A nonzero demand of a motion slot goes to the cases R56 to R59; every other demand passes as it is clamped (R55). -/
theorem enforceDemand_eq (b : TableSet) (load : OverloadState) (t : TipPosition) (slot : Nat) (received : Int) :
    enforceDemand b load (some t) slot received
      = if b.slotKind slot ∉ motionKinds ∨ clampDemand received = 0 then passAs received (clampDemand received)
        else judgeMotion b load t slot received :=
  if_congr (or_congr_left (b.isMotion_eq_false_iff slot)) rfl rfl

/-- The cases of a motion demand in their order: violation, zone stop, load stop, cap (R56 to R59). -/
theorem judgeMotion_eq (b : TableSet) (load : OverloadState) (t : TipPosition) (slot : Nat) (received : Int) :
    let d := clampDemand received
    let point := lookAhead b t slot d
    judgeMotion b load t slot received
      = if t.zone.rule = .noEntry ∨ t.band = .beyond then
          (if (t.ring = .beyond ∨ t.band = .beyond) ∧ t.reach < point.reach then zeroedZone false
          else passAs received (limitTo (b.setting .violationCap) d))
        else if point.zone.rule = .noEntry then zeroedZone true
        else if load = .overload ∧ exceeds point.utilization t.utilization = true then ⟨0, .zeroedLoad, false⟩
        else passAs received (limitTo (min t.zone.cap point.zone.cap) d) :=
  if_congr (inViolation_iff t) (if_congr (outwards_iff t _) rfl rfl) rfl

/-- Settles O26: the point by the kind of its slot, and a demand by the model's own cases in their order. -/
theorem enforcedDemandsSettledInOrder : Obligations.EnforcedDemandsSettledInOrder := by
  refine ⟨fun b t slot d => ?_, fun b load t slot received => ?_⟩
  · obtain ⟨slew, boom, jib, ext⟩ := lookAhead_eq b t slot d
    refine ⟨fun kind => ?_, fun kind => ?_, fun kind => ?_, fun kind => ?_⟩
    · rw [slew kind]
      exact evaluatedPoint_fields b t _ _ _ _
    · rw [boom kind]
      exact evaluatedPoint_fields b t _ _ _ _
    · rw [jib kind]
      exact evaluatedPoint_fields b t _ _ _ _
    · rw [ext kind]
      exact evaluatedPoint_fields b t _ _ _ _
  · exact (enforceDemand_eq b load t slot received).trans
      (if_congr Iff.rfl rfl (judgeMotion_eq b load t slot received))

end Sys2Proof.Machine

/-! PROOFS. The tare search: TARE, a tip position in the search, and a search that fails (spec/04, R65, R83 to R85) -/

namespace Sys2Proof.Machine

/-! ### TARE (R83) -/

/-- The guard states that refuse TARE are the three other than ENFORCE and BLOCKED. -/
theorem refusesTare_iff (g : GuardState) :
    (g ≠ .enforce ∧ g ≠ .blocked) ↔ g = .hold ∨ g = .service ∨ g = .park := by
  cases g <;> decide

/-- TARE without arguments: the refusals in their order, then a search with an empty window and a count of 0 (R83). -/
theorem judgeTare_nil (s : State) :
    judgeTare [] s
      = if s.lift.search.isSome = true then s.refuse .busy
        else if s.guard.state = .hold ∨ s.guard.state = .service ∨ s.guard.state = .park then s.refuse .wrongState
        else if s.lift.state ≠ .empty ∨ s.lift.grapple = .closed then s.refuse .notEmpty
        else ({ s with lift := { s.lift with search := some ⟨[], 0⟩ } } : State).accept := by
  rw [judgeTare, if_neg (by simp)]
  exact if_congr Iff.rfl rfl (if_congr (refusesTare_iff _) rfl rfl)

/-- The event of a taken TARE. -/
theorem execTare_taken {s : State} {p : Packet} (takes : s.Takes p) (body : p.body = []) :
    execTare p s
      = .next
        (if s.lift.search.isSome = true then s.closeWindow.replied .tare p (.refused .busy)
        else if s.guard.state = .hold ∨ s.guard.state = .service ∨ s.guard.state = .park then
          s.closeWindow.replied .tare p (.refused .wrongState)
        else if s.lift.state ≠ .empty ∨ s.lift.grapple = .closed then
          s.closeWindow.replied .tare p (.refused .notEmpty)
        else ({ s.closeWindow with lift := { s.lift with search := some ⟨[], 0⟩ } }).replied .tare p .accepted) := by
  rw [execTare, commandEvent_closed _ (by decide) takes (by simp [body]), body, judgeTare_nil]
  simp only [State.closeWindow_frame]
  split_ifs
  · rfl
  · rfl
  · rfl
  · rfl

/-! ### The window (R84) -/

/-- A window to which a value was appended is not empty. -/
theorem appendWindow_ne_nil {α : Type} (w : Nat) (window : List α) (x : α) : appendWindow w window x ≠ [] := by
  unfold appendWindow
  split <;> simp

/-- The spread of a window that is not empty is its greatest value less its least. -/
theorem spreadOf_spec {window : List Int} (nonempty : window ≠ []) :
    ∃ lo hi, lo ∈ window ∧ hi ∈ window ∧ (∀ m, m ∈ window → lo ≤ m ∧ m ≤ hi) ∧ spreadOf window = hi - lo := by
  obtain ⟨x, rest, rfl⟩ := List.exists_cons_of_ne_nil nonempty
  obtain ⟨loMem, loLeast⟩ := List.min?_eq_some_iff.mp (List.min?_cons' (x := x) (xs := rest))
  obtain ⟨hiMem, hiGreatest⟩ := List.max?_eq_some_iff.mp (List.max?_cons' (x := x) (xs := rest))
  refine ⟨_, _, loMem, hiMem, fun m mem => ⟨loLeast m mem, hiGreatest m mem⟩, ?_⟩
  simp [spreadOf]

/-! ### A search that fails (R85) -/

/-- Without a search nothing fails. -/
theorem State.failSearch_none {s : State} (idle : s.lift.search = none) : s.failSearch = s := by
  simp only [State.failSearch, idle]

/-- A search that fails latches TARE_FAILED and is NONE. -/
theorem State.failSearch_some {s : State} {search : TareSearch} (seeking : s.lift.search = some search) :
    s.failSearch = ({ s with lift := { s.lift with search := none } } : State).latch .tareFailed := by
  simp only [State.failSearch, seeking]

/-! ### A tip position (R65, R84) -/

/-- Without a search a tip position is not taken for one. -/
theorem State.tareStep_none {s : State} (idle : s.lift.search = none) (t : TipPosition) : s.tareStep t = s := by
  simp only [State.tareStep, idle]

/-- In a search: a full steady window is judged by its mean, and otherwise the 64th position ends the search. -/
theorem State.tareStep_some {s : State} {search : TareSearch} (seeking : s.lift.search = some search) (t : TipPosition) :
    let w := s.banks.active.setting .weighWindow
    let window := appendWindow w search.window t.gross
    let failed := ({ s with lift := { s.lift with search := none } } : State).latch .tareFailed
    s.tareStep t
      = if window.length = w ∧ spreadOf window ≤ (s.banks.active.setting .tolerance : Int) then
          (if 0 ≤ tareMean window ∧ tareMean window ≤ 2000 then
            ({ s with lift := { s.lift with tare := (tareMean window).toNat, search := none } } : State).latch .tareDone
          else failed)
        else if 64 ≤ search.count + 1 then failed
        else { s with lift := { s.lift with search := some ⟨window, search.count + 1⟩ } } := by
  simp only [State.tareStep, seeking, State.failSearch_some seeking, searchLimit]

/-- Settles O41: TARE by its judgement, a tip position and a failure by their equations with and without a search; the
spread that the model folds over the window is the greatest value less the least. -/
theorem tareSearchRuns : Obligations.TareSearchRuns := by
  refine ⟨fun s p => execTare_taken, fun s t search seeking => ?_, fun s =>
    ⟨fun idle => ⟨State.failSearch_none idle, State.tareStep_none idle⟩, fun _ => State.failSearch_some⟩⟩
  obtain ⟨lo, hi, loMem, hiMem, bounds, spread⟩ :=
    spreadOf_spec (appendWindow_ne_nil (s.banks.active.setting .weighWindow) search.window t.gross)
  refine ⟨lo, hi, loMem, hiMem, bounds, ?_⟩
  rw [State.tareStep_some seeking, spread]
  rfl

end Sys2Proof.Machine

/-! PROOFS. The table-write window: the rectangle that TABLE_WRITE opens and the walk of its pointer (spec/08, R137, R138) -/

namespace Sys2Proof.Machine

/-! ### The arguments of TABLE WRITE (R134, R137, R168) -/

/-- The table ids name the tables one to one (R134). -/
theorem TableId.ofNumber_eq_some_iff {n : Nat} {t : TableId} : TableId.ofNumber n = some t ↔ t.number = n := by
  constructor
  · intro found
    simpa using List.find?_some found
  · rintro rfl
    cases t <;> rfl

/-- The byte that names a walk order (R168). -/
def WalkOrder.number : WalkOrder → Nat
  | .rowFirst => 0
  | .columnFirst => 1

/-- The bytes name the walk orders one to one (R168). -/
theorem walkOrderOf_eq_some_iff {n : Nat} {order : WalkOrder} : walkOrderOf n = some order ↔ order.number = n := by
  constructor
  · intro named
    unfold walkOrderOf at named
    split at named <;> cases named <;> rfl
  · rintro rfl
    cases order <;> rfl

/-- COLUMN-FIRST is for the two tables of more than one row (R137). -/
theorem orderAllowed_iff (order : WalkOrder) (t : TableId) :
    orderAllowed order t = true ↔ (order = .columnFirst → t = .zoneMap ∨ t = .stabilityGrid) := by
  cases order
  case rowFirst => simp [orderAllowed]
  case columnFirst => cases t <;> simp [orderAllowed]

/-- A window is of the table and the order that its arguments name, and stands at the first entry of a rectangle that lies in
the table (R137). -/
theorem windowOf_eq_some_iff {args : Bytes} {w : Window} :
    windowOf args = some w ↔
      u8At args 0 = w.table.number ∧ u8At args 1 = w.firstRow ∧ u8At args 2 = w.lastRow ∧ u8At args 3 = w.firstCol
        ∧ u8At args 4 = w.lastCol ∧ u8At args 5 = w.order.number
        ∧ w.firstRow ≤ w.lastRow ∧ w.lastRow < w.table.rows ∧ w.firstCol ≤ w.lastCol ∧ w.lastCol < w.table.cols
        ∧ (w.order = .columnFirst → w.table = .zoneMap ∨ w.table = .stabilityGrid)
        ∧ w.row = w.firstRow ∧ w.col = w.firstCol := by
  simp only [windowOf, orderAllowed_iff]
  constructor
  · intro opened
    split at opened
    · next t order table walk =>
      rw [TableId.ofNumber_eq_some_iff] at table
      rw [walkOrderOf_eq_some_iff] at walk
      split at opened
      · next tests =>
        obtain ⟨-, rowFits, -, colFits, rows, cols, allowed⟩ := tests
        cases opened
        exact ⟨table.symm, rfl, rfl, rfl, rfl, walk.symm, rows, rowFits, cols, colFits, allowed, rfl, rfl⟩
      · cases opened
    · cases opened
  · obtain ⟨t, r0, r1, c0, c1, order, row, col⟩ := w
    dsimp only
    rintro ⟨table, rfl, rfl, rfl, rfl, walk, rows, rowFits, cols, colFits, allowed, rfl, rfl⟩
    rw [TableId.ofNumber_eq_some_iff.mpr table.symm, walkOrderOf_eq_some_iff.mpr walk.symm]
    exact if_pos ⟨rows.trans_lt rowFits, rowFits, cols.trans_lt colFits, colFits, rows, cols, allowed⟩

/-! ### The walk (R138) -/

/-- One more step on a cycle of `m` places: within the round, or from its last place to the first of the next round. -/
theorem succ_on_cycle (n : Nat) {m : Nat} (hm : 0 < m) :
    (n % m + 1 < m ∧ (n + 1) % m = n % m + 1 ∧ (n + 1) / m = n / m)
      ∨ (n % m + 1 = m ∧ (n + 1) % m = 0 ∧ (n + 1) / m = n / m + 1) := by
  have whole := Nat.mod_add_div n m
  rcases Nat.lt_or_eq_of_le (Nat.succ_le_of_lt (Nat.mod_lt n hm)) with inside | last
  · have next := (Nat.div_mod_unique (a := n + 1) (d := n / m) (c := n % m + 1) hm).mpr ⟨by omega, inside⟩
    exact .inl ⟨inside, next.2, next.1⟩
  · have next := (Nat.div_mod_unique (a := n + 1) (d := n / m + 1) (c := 0) hm).mpr
      ⟨by rw [Nat.mul_succ]; omega, hm⟩
    exact .inr ⟨last, next.2, next.1⟩

/-- The rows of the rectangle. -/
def Window.height (w : Window) : Nat := w.lastRow - w.firstRow + 1

/-- The columns of the rectangle. -/
def Window.width (w : Window) : Nat := w.lastCol - w.firstCol + 1

/-- The window after `n` steps from the first entry: the one coordinate goes round at every step, the other with every round
of the first (R138). -/
def Window.walked (w : Window) (n : Nat) : Window :=
  match w.order with
  | .rowFirst => { w with row := w.firstRow + n / w.width % w.height, col := w.firstCol + n % w.width }
  | .columnFirst => { w with row := w.firstRow + n % w.height, col := w.firstCol + n / w.height % w.width }

/-- No step leaves the window at its first entry. -/
theorem Window.walked_zero {w : Window} (row : w.row = w.firstRow) (col : w.col = w.firstCol) : w.walked 0 = w := by
  obtain ⟨t, r0, r1, c0, c1, order, r, c⟩ := w
  obtain rfl : r = r0 := row
  obtain rfl : c = c0 := col
  cases order <;> simp [Window.walked]

/-- A coordinate `k` places past the first one of its range lies before the last one unless it is the last of the cycle. -/
theorem add_lt_last_iff {first last k : Nat} (range : first ≤ last) : first + k < last ↔ k + 1 < last - first + 1 := by
  omega

/-- One step along the walk: the inner coordinate within its round, or a round of it completed within a round of the outer
one, or both completed. -/
theorem Window.advance_walked {w : Window} (rows : w.firstRow ≤ w.lastRow) (cols : w.firstCol ≤ w.lastCol) (n : Nat) :
    (w.walked n).advance = w.walked (n + 1) := by
  have height : 0 < w.height := Nat.succ_pos _
  have width : 0 < w.width := Nat.succ_pos _
  have rowBefore (k : Nat) : w.firstRow + k < w.lastRow ↔ k + 1 < w.height := add_lt_last_iff rows
  have colBefore (k : Nat) : w.firstCol + k < w.lastCol ↔ k + 1 < w.width := add_lt_last_iff cols
  cases order : w.order with
  | rowFirst =>
    simp only [Window.walked, Window.advance, order, rowBefore, colBefore]
    obtain ⟨inside, col, round⟩ | ⟨last, col, round⟩ := succ_on_cycle n width
    · rw [if_pos inside, col, round]
      rfl
    · rw [if_neg last.not_lt, col, round]
      obtain ⟨inside, row, -⟩ | ⟨last, row, -⟩ := succ_on_cycle (n / w.width) height
      · rw [if_pos inside, row]
        rfl
      · rw [if_neg last.not_lt, row]
        rfl
  | columnFirst =>
    simp only [Window.walked, Window.advance, order, rowBefore, colBefore]
    obtain ⟨inside, row, round⟩ | ⟨last, row, round⟩ := succ_on_cycle n height
    · rw [if_pos inside, row, round]
      rfl
    · rw [if_neg last.not_lt, row, round]
      obtain ⟨inside, col, -⟩ | ⟨last, col, -⟩ := succ_on_cycle (n / w.height) width
      · rw [if_pos inside, col]
        rfl
      · rw [if_neg last.not_lt, col]
        rfl

/-- The walk from the first entry in closed form. -/
theorem Window.repeat_advance {w : Window} (row : w.row = w.firstRow) (col : w.col = w.firstCol)
    (rows : w.firstRow ≤ w.lastRow) (cols : w.firstCol ≤ w.lastCol) (n : Nat) :
    Nat.repeat Window.advance n w = w.walked n := by
  induction n with
  | zero => exact (Window.walked_zero row col).symm
  | succ n ih => rw [Nat.repeat, ih, Window.advance_walked rows cols]

/-- Settles O43: TABLE WRITE by its judgement, its window by the tests of its arguments, and the walk by induction on the
number of its steps. -/
theorem tableWriteOpensWindow : Obligations.TableWriteOpensWindow := by
  refine ⟨⟨fun s p takes fits => ?_, fun args w => ?_⟩, fun w n row col rows cols => ?_⟩
  · change commandEvent (commandFrame .tableWrite p) (judgeTableWrite p.body) s = _
    rw [commandEvent_closed _ (by decide) takes fits, judgeTableWrite]
    simp only [State.closeWindow_frame]
    cases windowOf p.body <;> split_ifs <;> rfl
  · rw [windowOf_eq_some_iff]
    cases order : w.order <;> rfl
  · rw [Window.repeat_advance row col rows cols]
    rfl

end Sys2Proof.Machine

/-! PROOFS. TABLE_READ: its tests and the entries of its reply (spec/08, R141) -/

namespace Sys2Proof.Machine

/-! ### The judgement of TABLE READ (R141) -/

/-- A table id that names no table is refused. -/
theorem judgeTableRead_noTable {args : Bytes} (five : args.length = 5) (unknown : TableId.ofNumber (u8At args 1) = none)
    (s : State) : judgeTableRead args s = s.refuse .badArgument := by
  rw [judgeTableRead, if_neg (not_not.mpr five), unknown]

/-- With an id that names a table: the ranges of the other arguments, a reload of staging, then the entries, as many as asked,
as fit, and as the table has left. -/
theorem judgeTableRead_table {args : Bytes} {t : TableId} (five : args.length = 5) (named : t.number = u8At args 1)
    (s : State) :
    let start := u8At args 2 * t.cols + u8At args 3
    let n := min (u8At args 4) (min (25 / t.entrySize) (t.entries - start))
    judgeTableRead args s
      = if 1 < u8At args 0 ∨ (t.rows ≤ u8At args 2 ∨ t.cols ≤ u8At args 3) ∨ u8At args 4 = 0 then s.refuse .badArgument
        else if u8At args 0 = 1 ∧ s.store.state = .reloading then s.refuse .busy
        else s.done
          (byteOf n :: readEntries (if u8At args 0 = 0 then s.banks.active else s.banks.staging) t start n) := by
  rw [judgeTableRead, if_neg (not_not.mpr five), TableId.ofNumber_eq_some_iff.mpr named]
  exact if_congr (or_congr_right or_assoc.symm) rfl rfl

/-- An argument outside its range is refused: a bank past the second, no such table, a place outside it, a count of 0. -/
theorem judgeTableRead_outside {args : Bytes} (five : args.length = 5)
    (outside : 1 < u8At args 0 ∨ (∀ t : TableId, t.number = u8At args 1 → t.rows ≤ u8At args 2 ∨ t.cols ≤ u8At args 3)
      ∨ u8At args 4 = 0) (s : State) : judgeTableRead args s = s.refuse .badArgument := by
  cases table : TableId.ofNumber (u8At args 1) with
  | none => exact judgeTableRead_noTable five table s
  | some t =>
    have named := TableId.ofNumber_eq_some_iff.mp table
    rw [judgeTableRead_table five named]
    exact if_pos (outside.imp_right (Or.imp_left fun place => place t named))

/-- Settles O45: the length, the ranges of the arguments and the reload are the model's own tests, and a table id names a
table or none. -/
theorem tableReadReturnsEntries : Obligations.TableReadReturnsEntries := by
  intro s p takes fits
  have taken : exec (.tableRead p) s = .next ((judgeTableRead p.body s.closeWindow).ends .tableRead p) :=
    commandEvent_closed _ (by decide) takes fits
  rw [taken]
  refine ⟨fun wrong => ?_, fun five => ⟨fun outside => ?_, fun t named bank row col count => ?_⟩⟩
  · rw [judgeTableRead, if_pos wrong]
    rfl
  · rw [judgeTableRead_outside five outside]
    rfl
  · have inside : ¬(1 < u8At p.body 0 ∨ (t.rows ≤ u8At p.body 2 ∨ t.cols ≤ u8At p.body 3) ∨ u8At p.body 4 = 0) := by omega
    rw [judgeTableRead_table five named, if_neg inside]
    simp only [State.closeWindow_frame]
    split_ifs <;> rfl

end Sys2Proof.Machine

/-! PROOFS. COMMIT swaps, waits or is refused, and CANCEL_COMMIT (spec/08, R143, R146) -/

namespace Sys2Proof.Machine

/-! ### The tests of COMMIT (R62, R143) -/

/-- The change of a map stands in the way of a commit. -/
theorem State.mapsLocked_iff (s : State) :
    (s.mapsDiffer && !s.mapsMayChange) = true ↔
      (s.banks.staging.table .channelMap ≠ s.banks.active.table .channelMap
          ∨ s.banks.staging.table .valveMap ≠ s.banks.active.table .valveMap)
        ∧ s.guard.state ≠ .blocked ∧ s.guard.state ≠ .park := by
  simp [State.mapsDiffer, State.mapsMayChange]

/-- The swap can be made at once: at the rest point with no store running. -/
theorem State.swapAtOnce_iff (s : State) :
    (s.restPoint && s.store.state != .storing) = true ↔
      s.lift.state = .empty ∧ s.guard.quiet = true ∧ s.store.state ≠ .storing := by
  simp [State.restPoint, and_assoc]

/-- COMMIT where validation finds a failing entry: the length, the busy states, then that entry (R143). -/
theorem judgeCommit_invalid {s : State} {t : TableId} {i : Nat}
    (failure : validate s.banks.staging s.router.nodeAddress.toNat = some (t, i)) (args : Bytes) :
    judgeCommit args s
      = if args.length ≠ 0 then s.refuse .badArgument
        else if s.store.state = .reloading ∨ s.banks.commit = .pending then s.refuse .busy
        else ⟨s, .refused .invalidTable, [byteOf t.number, byteOf i]⟩ := by
  simp only [judgeCommit, failure, ite_or]

/-- COMMIT where validation passes: the length, the busy states, the two maps, then the swap or PENDING (R143). -/
theorem judgeCommit_valid {s : State} (passes : validate s.banks.staging s.router.nodeAddress.toNat = none) (args : Bytes) :
    judgeCommit args s
      = if args.length ≠ 0 then s.refuse .badArgument
        else if s.store.state = .reloading ∨ s.banks.commit = .pending then s.refuse .busy
        else if (s.banks.staging.table .channelMap ≠ s.banks.active.table .channelMap
              ∨ s.banks.staging.table .valveMap ≠ s.banks.active.table .valveMap)
            ∧ s.guard.state ≠ .blocked ∧ s.guard.state ≠ .park then s.refuse .wrongState
        else if s.lift.state = .empty ∧ s.guard.quiet = true ∧ s.store.state ≠ .storing then s.swap.done
        else ({ s with banks := { s.banks with commit := .pending } } : State).accept := by
  simp only [judgeCommit, passes, State.mapsLocked_iff, State.swapAtOnce_iff, ite_or]

/-- CANCEL COMMIT without arguments ends a pending commit and is refused without one (R146). -/
theorem judgeCancelCommit_nil (s : State) :
    judgeCancelCommit [] s
      = if s.banks.commit = .pending then ({ s with banks := { s.banks with commit := .none } } : State).done
        else s.refuse .wrongState :=
  if_neg (by simp)

/-- Settles O46: the tests of the two commands, and for COMMIT the cases of its validation. -/
theorem commitSwapsWaitsOrIsRefused : Obligations.CommitSwapsWaitsOrIsRefused := by
  refine fun s p takes => ⟨fun fits => ?_, fun body => ?_⟩
  · change commandEvent (commandFrame .commit p) (judgeCommit p.body) s = _
    rw [commandEvent_closed _ (by decide) takes fits]
    cases validation : validate s.banks.staging s.router.nodeAddress.toNat with
    | some failure =>
      rw [judgeCommit_invalid (s := s.closeWindow) validation]
      simp only [State.closeWindow_frame]
      split_ifs <;> rfl
    | none =>
      rw [judgeCommit_valid (s := s.closeWindow) validation]
      simp only [State.closeWindow_frame]
      split_ifs <;> rfl
  · change commandEvent (commandFrame .cancelCommit p) (judgeCancelCommit p.body) s = _
    rw [commandEvent_closed _ (by decide) takes (by simp [body]), body, judgeCancelCommit_nil]
    simp only [State.closeWindow_frame]
    split_ifs <;> rfl

end Sys2Proof.Machine

/-! PROOFS. ATTN at the end of every event, and CLEAR_CONDITIONS (spec/10, R164, R165) -/

namespace Sys2Proof.Machine

/-! ### Sets of conditions (R163) -/

/-- A set of conditions is not empty exactly where a condition has its bit in it. -/
theorem conditionSet_ne_zero_iff (set : BitVec 25) : set ≠ 0 ↔ ∃ k : Condition, set.getLsbD k.bit = true := by
  constructor
  · intro nonempty
    by_contra noBit
    refine nonempty (BitVec.eq_of_getLsbD_eq fun n below => ?_)
    obtain ⟨k, rfl⟩ := Condition.exists_bit n below
    simpa using not_exists.mp noBit k
  · rintro ⟨k, bit⟩ rfl
    simp at bit

/-- The 25 low bits of a mask hold every condition's bit. -/
theorem conditionMask_getLsbD (mask : Nat) (k : Condition) :
    (BitVec.ofNat 25 mask).getLsbD k.bit = mask.testBit k.bit := by
  rw [BitVec.getLsbD_ofNat, decide_eq_true k.bit_lt, Bool.true_and]

/-! ### ATTN (R165) -/

/-- A latched condition has its bit in a mask exactly where the latched set and the mask meet. -/
theorem State.latched_meets_iff (s : State) (mask : Nat) :
    s.conditions.latched &&& BitVec.ofNat 25 mask ≠ 0
      ↔ ∃ k : Condition, s.isLatched k = true ∧ mask.testBit k.bit = true := by
  simp only [conditionSet_ne_zero_iff, BitVec.getLsbD_and, conditionMask_getLsbD, Bool.and_eq_true, State.isLatched]

/-- The level of ATTN in the terms of R165. -/
theorem State.attnLevel_iff (s : State) :
    s.attnLevel = true ↔
      s.store.reading = false
        ∧ (s.guard.forceTest = true
          ∨ ∃ k : Condition,
              s.isLatched k = true ∧ (s.banks.active.setting .attentionMask).testBit k.bit = true) := by
  rw [← State.latched_meets_iff]
  simp [State.attnLevel]

/-- Every event ends with ATTN driven. -/
theorem exec_drivesAttn {i : Instr} {s t : State} (ran : exec i s = .next t) : ∃ u : State, t = u.driveAttn := by
  have ends : ∃ u, exec i s = finish u := by cases i <;> exact ⟨_, rfl⟩
  obtain ⟨u, ended⟩ := ends
  rw [ended] at ran
  cases ran
  exact ⟨u, rfl⟩

/-- Settles O3: every event ends with ATTN driven to its level, and driving ATTN leaves what the level looks at. -/
theorem attentionFollowsMaskAndForceTest : Obligations.AttentionFollowsMaskAndForceTest := by
  intro i s t ran
  obtain ⟨u, rfl⟩ := exec_drivesAttn ran
  rw [State.driveAttn_attn]
  exact u.attnLevel_iff

/-! ### CLEAR CONDITIONS (R164) -/

/-- A clear leaves a latched condition latched where the mask does not name it or its cause is present. -/
theorem clearedSet_getLsbD (latched mask present : BitVec 25) (k : Condition) :
    (clearedSet latched mask present).getLsbD k.bit
      = (latched.getLsbD k.bit && (!mask.getLsbD k.bit || present.getLsbD k.bit)) := by
  simp [clearedSet, k.bit_lt]

/-- What CLEAR CONDITIONS with a mask leaves latched. -/
def State.latchedAfterClear (s : State) (mask : Nat) : BitVec 25 :=
  clearedSet s.conditions.latched (BitVec.ofNat 25 mask) s.presentSet

/-- A condition is left latched where the mask does not name it or its cause is present. -/
theorem State.latchedAfterClear_getLsbD (s : State) (mask : Nat) (k : Condition) :
    (s.latchedAfterClear mask).getLsbD k.bit = (s.isLatched k && (!mask.testBit k.bit || s.cause k)) := by
  rw [State.latchedAfterClear, clearedSet_getLsbD, conditionMask_getLsbD, State.presentSet_getLsbD, State.isLatched]

/-- A mask of condition bits alone is cleared, and the answer is what stays latched. -/
theorem judgeClearConditions_clears {args : Bytes} (four : args.length = 4) (fits : u32At args 0 < 2 ^ 25) (s : State) :
    judgeClearConditions args s
      = ({ s with conditions := { s.conditions with latched := s.latchedAfterClear (u32At args 0) } } : State).done
          (bytes32 (s.latchedAfterClear (u32At args 0)).toNat) := by
  rw [judgeClearConditions, if_neg (not_not.mpr four), if_neg (not_le.mpr fits)]
  rfl

/-- A mask with a bit above bit 24 is refused. -/
theorem judgeClearConditions_refuses {args : Bytes} (above : 2 ^ 25 ≤ u32At args 0) (s : State) :
    judgeClearConditions args s = s.refuse .badArgument := by
  simp only [judgeClearConditions, if_pos above, ite_self]

/-- Settles O11: the bound on the mask is the model's own test, and closing the window changes neither the latched set nor a
cause. -/
theorem clearConditionsKeepsPresentCauses : Obligations.ClearConditionsKeepsPresentCauses := by
  intro s p takes four
  have taken : exec (.clearConditions p) s
      = .next ((judgeClearConditions p.body s.closeWindow).ends .clearConditions p) :=
    commandEvent_closed _ (by decide) takes (by omega)
  rw [taken]
  refine ⟨fun fits => ⟨s.closeWindow.latchedAfterClear (u32At p.body 0), ?_, fun k => ?_⟩, fun above => ?_⟩
  · rw [judgeClearConditions_clears four fits]
    rfl
  · rw [State.latchedAfterClear_getLsbD, State.cause_closeWindow]
    rfl
  · rw [judgeClearConditions_refuses above]
    rfl

end Sys2Proof.Machine

/-! PROOFS. What one event can do, said once: the states a judged command leaves, the effects of an event before ATTN is
driven, and the induction that every invariant over steps uses -/

namespace Sys2Proof.Machine

/-! ### A judged command (R156) -/

/-- The states that carrying out a command can leave, from the state it is judged on, with what its tests have shown. -/
inductive Judged (s : State) : State → Prop where
  /-- The command is refused, or it only answers. -/
  | same : Judged s s
  /-- ASSIGN ADDRESS (R108). -/
  | assigned (a : Nat) (low : 1 ≤ a) (high : a ≤ 30) : Judged s { s with router := ⟨BitVec.ofNat 5 a, .linked, true⟩ }
  /-- CLEAR CONDITIONS (R164). -/
  | cleared (mask : Nat) : Judged s { s with conditions := { s.conditions with latched := s.latchedAfterClear mask } }
  /-- A guard command enters a state; HOLD asks for valid tables, SERVICE for the key (R39, R44 to R49). -/
  | entered (g : GuardState) (valid : g = .hold → s.banks.activeValid = true) (key : g = .service → s.pins.skey = true)
      (never : g ≠ .enforce) : Judged s (s.enterGuard g false)
  /-- FORCE TEST (R50). -/
  | forced (on : Bool) : Judged s (s.setForceTest on)
  /-- TABLE WRITE opens a window (R137). -/
  | opened (w : Window) (store : s.store.state ≠ .reloading) (free : s.banks.commit ≠ .pending) :
      Judged s { s with unit := { s.unit with window := some w } }
  /-- TABLE DATA writes entries at the pointer (R139). -/
  | written (entries : List Bytes) (w : Window) (window : s.unit.window = some w) (store : s.store.state ≠ .reloading) :
      Judged s { s with
        banks := { s.banks with staging := (writeEntries entries s.banks.staging w).1 }
        unit := { s.unit with window := some (writeEntries entries s.banks.staging w).2 } }
  /-- COMMIT swaps at once (R143). -/
  | swapped (passes : validate s.banks.staging s.router.nodeAddress.toNat = none) (empty : s.lift.state = .empty)
      (quiet : s.guard.quiet = true) (store : s.store.state ≠ .storing) : Judged s s.swap
  /-- COMMIT waits (R143). -/
  | pended (closed : s.unit.window = none) (passes : validate s.banks.staging s.router.nodeAddress.toNat = none)
      (store : s.store.state ≠ .reloading) : Judged s { s with banks := { s.banks with commit := .pending } }
  /-- CANCEL COMMIT (R146). -/
  | cancelled : Judged s { s with banks := { s.banks with commit := .none } }
  /-- STORE (R151). -/
  | stored (store : s.store.state = .idle) (valid : s.banks.activeValid = true) : Judged s s.beginStore
  /-- RELOAD (R154). -/
  | reloaded (closed : s.unit.window = none) (store : s.store.state = .idle) (free : s.banks.commit ≠ .pending) :
      Judged s { s with store := { s.store with state := .reloading } }
  /-- SELECT ASSORTMENT (R93). -/
  | selected (k : Nat) (index : k < 12) (enabled : s.banks.active.assortmentEnabled k = true) :
      Judged s { s with tally := { s.tally with selected := k } }
  /-- TARE (R83). -/
  | sought (empty : s.lift.state = .empty) (grapple : s.lift.grapple = .opened) :
      Judged s { s with lift := { s.lift with search := some ⟨[], 0⟩ } }
  /-- FETCH LIFT (R100). -/
  | fetched (r : LiftRecord) (rest : List LiftRecord) (records : s.tally.records = r :: rest) :
      Judged s { s with tally := { s.tally with records := rest } }
  /-- CLEAR TALLY (R96). -/
  | emptied :
      Judged s
        ({ s with tally := { s.tally with tallies := List.replicate 12 zeroTally, workTimer := 0 } } : State).judgeBunk
  /-- LINE RESET (R160). -/
  | pendedReset (closed : s.unit.window = none) (store : s.store.state = .idle) :
      Judged s { s with unit := { s.unit with lineResetPending := true } }

/-- The guard commands by their tests (R39, R44 to R50). -/
theorem judgeGuardCommand_judged {c : CommandId} (guard : c ∈ guardCommands) (windowOpen : Bool) (args : Bytes)
    (s : State) : Judged s (judgeCommand windowOpen c args s).state := by
  cases c
  case guardStart =>
    simp only [judgeCommand, judgeGuardStart]
    split_ifs with _ _ _ invalid
    exacts [.same, .same, .same, .same, .entered .hold (fun _ => by simpa using invalid) nofun nofun]
  case guardStop =>
    simp only [judgeCommand, judgeGuardStop]
    split_ifs
    exacts [.same, .entered .blocked nofun nofun nofun]
  case serviceEnter =>
    simp only [judgeCommand, judgeServiceEnter]
    split_ifs with _ _ key
    exacts [.same, .same, .same, .entered .service nofun (fun _ => by simpa using key) nofun]
  case serviceExit =>
    simp only [judgeCommand, judgeServiceExit]
    split_ifs
    exacts [.same, .same, .entered .blocked nofun nofun nofun]
  case park =>
    simp only [judgeCommand, judgePark]
    split_ifs
    exacts [.same, .entered .park nofun nofun nofun]
  case parkExit =>
    simp only [judgeCommand, judgeParkExit]
    split_ifs with _ _ valid
    exacts [.same, .same, .entered .hold (fun _ => valid) nofun nofun, .entered .blocked nofun nofun nofun]
  case forceTest =>
    simp only [judgeCommand, judgeForceTest]
    split_ifs
    exacts [.same, .forced false, .forced true, .same]
  all_goals simp [guardCommands] at guard

/-- COMMIT by its tests (R143). -/
theorem judgeCommit_judged {s : State} (closed : s.unit.window = none) (args : Bytes) :
    Judged s (judgeCommit args s).state := by
  cases validation : validate s.banks.staging s.router.nodeAddress.toNat with
  | some failure =>
    rw [judgeCommit_invalid validation]
    split_ifs <;> exact .same
  | none =>
    rw [judgeCommit_valid validation]
    split_ifs with _ busy _ rest
    exacts [.same, .same, .same, .swapped validation rest.1 rest.2.1 rest.2.2,
      .pended closed validation fun h => busy (.inl h)]

/-- TABLE WRITE and TABLE DATA by their tests (R137, R139). -/
theorem judgeTableCommands_judged (args : Bytes) (s : State) :
    Judged s (judgeTableWrite args s).state ∧ Judged s (judgeTableData args s).state := by
  constructor
  · simp only [judgeTableWrite]
    split_ifs with _ reloading pending
    · exact .same
    · exact .same
    · exact .same
    · split
      · exact .opened _ reloading pending
      · exact .same
  · simp only [judgeTableData]
    split_ifs with reloading
    · exact .same
    · split
      · exact .same
      · next window =>
        split_ifs
        · exact .same
        · exact .written _ _ window reloading

/-- TARE by its tests (R83). -/
theorem judgeTare_judged (args : Bytes) (s : State) : Judged s (judgeTare args s).state := by
  simp only [judgeTare]
  split_ifs with _ _ _ busy
  · exact .same
  · exact .same
  · exact .same
  · exact .same
  · obtain ⟨empty, grapple⟩ := not_or.mp busy
    refine .sought (not_not.mp empty) ?_
    cases state : s.lift.grapple
    · rfl
    · exact absurd state grapple

/-- ASSIGN ADDRESS by its rows (R108). -/
theorem judgeAssignAddress_judged (args : Bytes) (s : State) : Judged s (judgeAssignAddress args s).state := by
  simp only [judgeAssignAddress]
  split_ifs with _ range
  · exact .same
  · exact .same
  · exact .same
  · exact .same
  · exact .assigned _ (by omega) (by omega)

/-- CLEAR CONDITIONS by its tests (R164). -/
theorem judgeClearConditions_judged (args : Bytes) (s : State) : Judged s (judgeClearConditions args s).state := by
  by_cases length : args.length = 4
  · by_cases fits : u32At args 0 < 2 ^ 25
    · rw [judgeClearConditions_clears length fits]
      exact .cleared _
    · rw [judgeClearConditions_refuses (Nat.not_lt.mp fits)]
      exact .same
  · rw [judgeClearConditions, if_pos length]
    exact .same

/-- Every command, judged on a state whose window every command but TABLE DATA has closed, leaves one of the states
above. -/
theorem judgeCommand_judged {c : CommandId} {s : State} (closed : c ≠ .tableData → s.unit.window = none)
    (windowOpen : Bool) (args : Bytes) : Judged s (judgeCommand windowOpen c args s).state := by
  cases c
  case guardStart | guardStop | serviceEnter | serviceExit | park | parkExit | forceTest =>
    exact judgeGuardCommand_judged (by decide) windowOpen args s
  case assignAddress => exact judgeAssignAddress_judged args s
  case readStatus =>
    simp only [judgeCommand, judgeReadStatus]
    split_ifs <;> exact .same
  case clearConditions => exact judgeClearConditions_judged args s
  case tableWrite => exact (judgeTableCommands_judged args s).1
  case tableData => exact (judgeTableCommands_judged args s).2
  case tableRead =>
    simp only [judgeCommand, judgeTableRead]
    (repeat' split) <;> exact .same
  case commit => exact judgeCommit_judged (closed nofun) args
  case cancelCommit =>
    simp only [judgeCommand, judgeCancelCommit]
    split_ifs
    exacts [.same, .cancelled, .same]
  case store =>
    simp only [judgeCommand, judgeStore]
    split_ifs with _ busy invalid
    exacts [.same, .same, .same, .stored (not_not.mp busy) (by simpa using invalid)]
  case reload =>
    simp only [judgeCommand, judgeReload]
    split_ifs with _ busy pending
    exacts [.same, .same, .same, .same, .reloaded (closed nofun) (not_not.mp busy) pending]
  case selectAssortment =>
    simp only [judgeCommand, judgeSelectAssortment]
    split_ifs with _ named
    exacts [.same, .selected _ named.1 named.2, .same]
  case tare => exact judgeTare_judged args s
  case fetchLift =>
    simp only [judgeCommand, judgeFetchLift]
    split_ifs
    · exact .same
    · split
      · exact .same
      · next records => exact .fetched _ _ records
  case readTally =>
    simp only [judgeCommand, judgeReadTally]
    split_ifs <;> exact .same
  case clearTally =>
    simp only [judgeCommand, judgeClearTally]
    split_ifs
    exacts [.same, .emptied]
  case lineReset =>
    simp only [judgeCommand, judgeLineReset]
    split_ifs with _ busy
    exacts [.same, .same, .pendedReset (closed nofun) (not_not.mp busy)]

/-- What a COMMAND payload calls for, judged after its window step, leaves one of the states above (R156, R158). -/
theorem judgePayload_judged (windowOpen : Bool) (payload : Bytes) (s : State) :
    Judged (s.windowStep payload) (judgePayload windowOpen payload (s.windowStep payload)).state := by
  unfold judgePayload
  cases named : commandOfPayload payload with
  | none => exact .same
  | some c =>
    refine judgeCommand_judged (fun other => ?_) windowOpen _
    rw [State.windowStep, if_neg (by simpa [named] using other)]
    rfl

/-! ### The effects of an event -/

/-- What an event can do to the state, its pins sampled, before ATTN is driven. -/
inductive Effect (s : State) : Instr → State → Prop where
  /-- Nothing. -/
  | idle (i : Instr) : Effect s i s
  /-- An event condition latches. -/
  | latched (i : Instr) (k : Condition) (event : k ∉ persistentConditions) : Effect s i (s.latch k)
  /-- A frame is forwarded at the Crane Port (R109, R114). -/
  | craneward (i : Instr) (f : Frame) (linked : s.router.link = .linked) : Effect s i (s.forwardCrane f)
  /-- A frame is forwarded at the Cab Port (R112, R115). -/
  | cabward (i : Instr) (f : Frame) (linked : s.router.link = .linked) : Effect s i (s.forwardCab f)
  /-- The Command Unit takes a command (R156). -/
  | taken (i : Instr) (f : Frame) (windowOpen : Bool) (reading : s.store.reading = false)
      (pending : s.unit.lineResetPending = false) (slot : s.unit.replySlot = none)
      (addressed : s.router.link = .linked ∨ commandOfPayload f.payload = some .assignAddress) :
      Effect s i (takeCommand f (judgePayload windowOpen f.payload) s)
  /-- The Command Unit takes a broadcast, which is forwarded (R111). -/
  | broadcast (i : Instr) (f : Frame) (windowOpen : Bool) (reading : s.store.reading = false)
      (linked : s.router.link = .linked) (pending : s.unit.lineResetPending = false)
      (permitted : permittedBroadcast f.payload = true) :
      Effect s i ((judgePayload windowOpen f.payload (s.windowStep f.payload)).state.forwardCrane f)
  /-- A SYNC frame is taken and forwarded (R125). -/
  | synced (i : Instr) (f : Frame) (sequence : Byte) (reading : s.store.reading = false)
      (linked : s.router.link = .linked) (parked : s.guard.state ≠ .park) :
      Effect s i ((s.takeSync sequence).forwardCrane f)
  /-- A DEMAND frame is handed to the Envelope Guard (R52, R110). -/
  | demanded (i : Instr) (f : Frame) (reading : s.store.reading = false) (linked : s.router.link = .linked)
      (length : f.payload.length = 16) : Effect s i (s.guardDemand f)
  /-- A SAMPLE frame is snooped and forwarded (R112, R126). -/
  | sampled (i : Instr) (f : Frame) (linked : s.router.link = .linked) : Effect s i ((s.snoop f).forwardCab f)
  /-- FRAME_DEPARTS at the Cab Port (R113). -/
  | cabDeparts (i : Instr) : Effect s i s.cabDeparts
  /-- FRAME_DEPARTS at the Crane Port (R113). -/
  | craneDeparts (i : Instr) : Effect s i s.craneDeparts
  /-- REPLY_JOINS_QUEUE (R116). -/
  | replyJoins (i : Instr) : Effect s i s.replyJoins
  /-- LINE_RESET_TAKES_EFFECT (R161). -/
  | lineReset (i : Instr) (pending : s.unit.lineResetPending = true) : Effect s i s.lineReset
  /-- POWER_ON_RESET (R162). -/
  | powerOn (i : Instr) : Effect s i s.powerOn
  /-- IMAGE_READ_END (R150). -/
  | imageReadEnd (reading : s.store.reading = true) : Effect s .imageReadEnd s.endImageRead
  /-- STORE_END (R152). -/
  | storeEnd (left : List ByteChange) (store : s.store.state = .storing) : Effect s (.storeEnd left) (s.endStore left)
  /-- RELOAD_END (R154). -/
  | reloadEnd (i : Instr) (store : s.store.state = .reloading) : Effect s i s.endReload
  /-- WATCH_EXPIRY (R42). -/
  | watchExpiry (i : Instr) : Effect s i s.watchExpiry
  /-- SKEY_DEASSERT (R47). -/
  | keyLost (i : Instr) : Effect s i s.keyLost
  /-- PENDING_COMMIT_SWAP (R144). -/
  | attempted (i : Instr) : Effect s i s.attemptSwap
  /-- LIFT_TIMER_TICK (R81). -/
  | liftTicked (i : Instr) (runs : s.lift.timerRunning = true) :
      Effect s i { s with lift := { s.lift with timer := min (s.lift.timer + 1) liftTimerLimit } }
  /-- WORK_TIMER_TICK (R95). -/
  | workTicked (i : Instr) : Effect s i { s with tally := { s.tally with workTimer := min (s.tally.workTimer + 1) workTimerLimit } }
  /-- NONVOLATILE_CONTENT_LOSS (R149). -/
  | contentLost (lost : List ByteChange) :
      Effect s (.nonvolatileContentLoss lost) { s with store := { s.store with image := changeBytes s.store.image lost } }

/-- A command handed to the Command Unit is discarded, lost or taken (R117, R160). -/
theorem handCommand_event (i : Instr) (f : Frame) (windowOpen : Bool) {s : State} (reading : s.store.reading = false)
    (addressed : s.router.link = .linked ∨ commandOfPayload f.payload = some .assignAddress) :
    Effect s i (handCommand f (judgePayload windowOpen f.payload) s) := by
  unfold handCommand
  split_ifs with pending slot
  · exact .idle i
  · exact .latched i .commandLost (by decide)
  · exact .taken i f windowOpen reading (by simpa using pending) (by simpa using slot) addressed

/-- A COMMAND frame at the Cab Port is bad, discarded, handed over, taken as a broadcast or forwarded (R104 to R111). -/
theorem cabPort_command_event (i : Instr) (f : Frame) (windowOpen : Bool) (s : State) :
    Effect s i (cabPort f (routeCommand f (judgePayload windowOpen f.payload)) s) := by
  unfold cabPort
  split_ifs with long reading
  · exact .latched i .crcCab (by decide)
  · exact .idle i
  · have reading : s.store.reading = false := by simpa using reading
    cases link : s.router.link with
    | dark =>
      simp only [routeCommand, link]
      split_ifs with discovery
      · exact handCommand_event i f windowOpen reading (.inr discovery.2.1)
      · exact .idle i
    | linked =>
      simp only [routeCommand, link, takeBroadcast, Bool.and_eq_true, Bool.not_eq_true']
      split_ifs with own everyone permitted
      · exact handCommand_event i f windowOpen reading (.inl link)
      · exact .broadcast i f windowOpen reading link permitted.2 permitted.1
      · exact .craneward i f link
      · exact .craneward i f link

/-- A SYNC frame at the Cab Port (R107, R109, R125). -/
theorem cabPort_sync_event (i : Instr) (f : Frame) (s : State) : Effect s i (cabPort f (routeSync f) s) := by
  unfold cabPort
  split_ifs with long reading
  · exact .latched i .crcCab (by decide)
  · exact .idle i
  · cases link : s.router.link with
    | dark =>
      simp only [routeSync, link]
      exact .idle i
    | linked =>
      simp only [routeSync, link, State.syncHanded, Bool.and_eq_true, bne_iff_ne]
      split_ifs with handed
      · exact .synced i f _ (by simpa using reading) link handed.2
      · exact .craneward i f link

/-- A DEMAND frame at the Cab Port (R107, R109, R110). -/
theorem cabPort_demand_event (i : Instr) (f : Frame) (s : State) : Effect s i (cabPort f (routeDemand f) s) := by
  unfold cabPort
  split_ifs with long reading
  · exact .latched i .crcCab (by decide)
  · exact .idle i
  · cases link : s.router.link with
    | dark =>
      simp only [routeDemand, link]
      exact .idle i
    | linked =>
      simp only [routeDemand, link]
      split_ifs with handed
      · exact .demanded i f (by simpa using reading) link handed.1
      · exact .latched i .valveReject (by decide)

/-- A SAMPLE frame at the Crane Port (R107, R112). -/
theorem cranePort_sample_event (i : Instr) (f : Frame) (s : State) : Effect s i (cranePort f (routeSample f) s) := by
  unfold cranePort
  split_ifs with long
  · exact .latched i .crcCrane (by decide)
  · cases link : s.router.link with
    | dark =>
      simp only [routeSample, link]
      exact .idle i
    | linked =>
      simp only [routeSample, link]
      exact .sampled i f link

/-- Any good frame at the Cab Port, by its class (R109). -/
theorem cabPort_event (i : Instr) (f : Frame) (s : State) : Effect s i (cabPort f (routeCab f) s) := by
  by_cases command : f.cls = classCommand
  · have routed : cabPort f (routeCab f) s
        = cabPort f (routeCommand f (judgePayload s.unit.window.isSome f.payload)) s := by
      simp only [cabPort, routeCab, if_pos command]
    rw [routed]
    exact cabPort_command_event i f _ s
  by_cases sync : f.cls = classSync
  · have routed : cabPort f (routeCab f) s = cabPort f (routeSync f) s := by
      simp only [cabPort, routeCab, if_neg command, if_pos sync]
    rw [routed]
    exact cabPort_sync_event i f s
  by_cases demand : f.cls = classDemand
  · have routed : cabPort f (routeCab f) s = cabPort f (routeDemand f) s := by
      simp only [cabPort, routeCab, if_neg command, if_neg sync, if_pos demand]
    rw [routed]
    exact cabPort_demand_event i f s
  · simp only [cabPort, routeCab, if_neg command, if_neg sync, if_neg demand, routeOtherCrane]
    split_ifs
    · exact .latched i .crcCab (by decide)
    · exact .idle i
    · split
      · exact .idle i
      · next link => exact .craneward i f link

/-- Any good frame at the Crane Port, by its class (R112). -/
theorem cranePort_event (i : Instr) (f : Frame) (s : State) : Effect s i (cranePort f (routeCrane f) s) := by
  by_cases sample : f.cls = classSample
  · have routed : cranePort f (routeCrane f) s = cranePort f (routeSample f) s := by
      simp only [cranePort, routeCrane, if_pos sample]
    rw [routed]
    exact cranePort_sample_event i f s
  · simp only [cranePort, routeCrane, if_neg sample]
    split
    · exact .latched i .crcCrane (by decide)
    · split
      · exact .idle i
      · next link =>
        split
        · exact .idle i
        · exact .cabward i f link

/-- Sampling the levels that are held changes nothing. -/
@[simp] theorem State.samplePins_self (s : State) : s.samplePins s.pins = s := by simp [State.samplePins]

/-- A command row samples the pins it reads, and no pin where it reads none (R47, R107). -/
theorem State.sampledFor_eq (s : State) (c : CommandId) (pins : Pins) :
    ∃ levels : Pins, s.sampledFor c pins = s.samplePins levels := by
  unfold State.sampledFor
  split
  · exact ⟨_, rfl⟩
  · exact ⟨_, rfl⟩
  · exact ⟨s.pins, by simp⟩

/-- The row of a command and its levels, of every instruction that is one. -/
theorem exec_commandRow_effect (c : CommandId) (p : Packet) (pins : Pins) (s : State) :
    ∃ (levels : Pins) (u : State), Effect (s.samplePins levels) (commandRow c p pins) u
      ∧ exec (commandRow c p pins) s = finish u := by
  obtain ⟨levels, sampled⟩ := s.sampledFor_eq c pins
  have judged : judgeCommand s.unit.window.isSome c p.body
      = judgePayload s.unit.window.isSome (commandFrame c p).payload := by
    simp [judgePayload, commandFrame]
  refine ⟨levels, _, cabPort_command_event _ (commandFrame c p) s.unit.window.isSome _, ?_⟩
  rw [exec_commandRow, judged, sampled]
  rfl

/-- An effect on the state as it stands is one with the pins sampled at the levels they have. -/
theorem Effect.unsampled {s u : State} {i : Instr} (effect : Effect s i u) (ran : exec i s = finish u) :
    ∃ (levels : Pins) (u : State), Effect (s.samplePins levels) i u ∧ exec i s = finish u :=
  ⟨s.pins, u, by rwa [State.samplePins_self], ran⟩

/-- Where a test decides between an effect and nothing, either is an effect. -/
theorem Effect.ite {s u : State} {i : Instr} {test : Prop} [Decidable test] (effect : test → Effect s i u) :
    Effect s i (if test then u else s) := by
  split_ifs with holds
  · exact effect holds
  · exact .idle i

/-- Every event does one of the things above and then drives ATTN. -/
theorem exec_effect (i : Instr) (s : State) :
    ∃ (levels : Pins) (u : State), Effect (s.samplePins levels) i u ∧ exec i s = finish u := by
  cases i with
  | assignAddress p csi => exact exec_commandRow_effect .assignAddress p ⟨csi, false⟩ s
  | readStatus p => exact exec_commandRow_effect .readStatus p s.pins s
  | clearConditions p => exact exec_commandRow_effect .clearConditions p s.pins s
  | guardStart p => exact exec_commandRow_effect .guardStart p s.pins s
  | guardStop p => exact exec_commandRow_effect .guardStop p s.pins s
  | serviceEnter p skey => exact exec_commandRow_effect .serviceEnter p ⟨false, skey⟩ s
  | serviceExit p => exact exec_commandRow_effect .serviceExit p s.pins s
  | park p => exact exec_commandRow_effect .park p s.pins s
  | parkExit p => exact exec_commandRow_effect .parkExit p s.pins s
  | forceTest p => exact exec_commandRow_effect .forceTest p s.pins s
  | tableWrite p => exact exec_commandRow_effect .tableWrite p s.pins s
  | tableData p => exact exec_commandRow_effect .tableData p s.pins s
  | tableRead p => exact exec_commandRow_effect .tableRead p s.pins s
  | commit p => exact exec_commandRow_effect .commit p s.pins s
  | cancelCommit p => exact exec_commandRow_effect .cancelCommit p s.pins s
  | store p => exact exec_commandRow_effect .store p s.pins s
  | reload p => exact exec_commandRow_effect .reload p s.pins s
  | selectAssortment p => exact exec_commandRow_effect .selectAssortment p s.pins s
  | tare p => exact exec_commandRow_effect .tare p s.pins s
  | fetchLift p => exact exec_commandRow_effect .fetchLift p s.pins s
  | readTally p => exact exec_commandRow_effect .readTally p s.pins s
  | clearTally p => exact exec_commandRow_effect .clearTally p s.pins s
  | lineReset p => exact exec_commandRow_effect .lineReset p s.pins s
  | unknownCommand p => exact (cabPort_command_event _ (frameOf classCommand p) _ s).unsampled rfl
  | cabPortFrame rx pins =>
    by_cases quiet : rx.isEmpty
    · exact (Effect.idle _).unsampled (by simp [exec, execCabPortFrame, cabReception, quiet])
    · cases received : receiveFrame rx with
      | none =>
        exact (Effect.latched _ .crcCab (by decide)).unsampled
          (by simp [exec, execCabPortFrame, cabReception, quiet, received])
      | some f =>
        exact ⟨pins, _, cabPort_event _ f _, by simp [exec, execCabPortFrame, cabReception, quiet, received]⟩
  | cranePortFrame rx =>
    by_cases quiet : rx.isEmpty
    · exact (Effect.idle _).unsampled (by simp [exec, execCranePortFrame, craneReception, quiet])
    · cases received : receiveFrame rx with
      | none =>
        exact (Effect.latched _ .crcCrane (by decide)).unsampled
          (by simp [exec, execCranePortFrame, craneReception, quiet, received])
      | some f =>
        exact (cranePort_event _ f s).unsampled
          (by simp [exec, execCranePortFrame, craneReception, quiet, received])
  | demand p => exact (cabPort_demand_event _ (frameOf classDemand p) s).unsampled rfl
  | sync p => exact (cabPort_sync_event _ (frameOf classSync p) s).unsampled rfl
  | sample p => exact (cranePort_sample_event _ (frameOf classSample p) s).unsampled rfl
  | frameDeparts port =>
    cases port with
    | cab => exact (Effect.cabDeparts _).unsampled rfl
    | crane => exact (Effect.craneDeparts _).unsampled rfl
  | replyJoinsQueue => exact (Effect.replyJoins _).unsampled rfl
  | lineResetTakesEffect =>
    exact (Effect.ite fun due => .lineReset _ (Bool.and_eq_true_iff.mp due).1).unsampled rfl
  | powerOnReset => exact (Effect.powerOn _).unsampled rfl
  | imageReadEnd => exact (Effect.ite .imageReadEnd).unsampled rfl
  | storeEnd left => exact (Effect.ite (.storeEnd left)).unsampled rfl
  | reloadEnd => exact (Effect.ite (.reloadEnd _)).unsampled rfl
  | watchExpiry => exact (Effect.watchExpiry _).unsampled rfl
  | skeyDeassert => exact (Effect.keyLost _).unsampled rfl
  | pendingCommitSwap => exact (Effect.attempted _).unsampled rfl
  | liftTimerTick => exact (Effect.ite (.liftTicked _)).unsampled rfl
  | workTimerTick => exact (Effect.ite fun _ => .workTicked _).unsampled rfl
  | nonvolatileContentLoss lost => exact (Effect.contentLost lost).unsampled rfl

/-! ### The induction over steps -/

/-- A property of the next state of a command: it is enough to look at the effect of the event on a state whose pins have
been sampled. -/
theorem exec_keeps {H P : State → Prop} {i : Instr} (pins : ∀ (s : State) (levels : Pins), H s → H (s.samplePins levels))
    (effect : ∀ s u : State, H s → Effect s i u → P u) (attn : ∀ u : State, P u → P u.driveAttn) {s t : State} (h : H s)
    (ran : exec i s = .next t) : P t := by
  obtain ⟨levels, u, done, ended⟩ := exec_effect i s
  rw [ended] at ran
  cases ran
  exact attn u (effect _ u (pins s levels h) done)

/-- A property of the next state of a step: an idle step keeps it, and a command does what its effect does, on the queue's
rest. -/
theorem step_keeps {H P : State → Prop} (idle : ∀ s : State, H s → P s)
    (queue : ∀ (s : State) (rest : List Instr), H s → H { s with pending := rest })
    (pins : ∀ (s : State) (levels : Pins), H s → H (s.samplePins levels))
    (effect : ∀ (s : State) (i : Instr) (u : State), H s → Effect s i u → P u)
    (attn : ∀ u : State, P u → P u.driveAttn) {s t : State} (h : H s) (ran : step s = .next t) : P t := by
  unfold step at ran
  split at ran
  · cases ran
    exact idle s h
  · next i rest _ => exact exec_keeps pins (fun s u hs done => effect s i u hs done) attn (queue s rest h) ran

end Sys2Proof.Machine

/-! PROOFS. The shared operations of the guard and the banks, cut at the states between their parts (spec/03, spec/08) -/

namespace Sys2Proof.Machine

/-! ### The swap (R145) -/

/-- What a swap writes before its conditions latch and are judged (R84, R94, R131, R145). -/
def State.swapTables (s : State) : State :=
  { s with
    banks := ⟨s.banks.staging, s.banks.staging, true, .none⟩
    openSet := openSetAfterSwap s.banks.active s.banks.staging s.openSet
    lift := { s.lift with search := searchAfterSwap s.banks.active s.banks.staging s.lift.search }
    tally := { s.tally with selected := selectionAfterSwap s.banks.staging s.tally.selected } }

/-- A swap latches SWAP_DONE and judges NEAR_CAPACITY and the bunk conditions on the new tables (R33, R92, R145). -/
theorem State.swap_eq (s : State) :
    s.swap
      = ((s.swapTables.latch .swapDone).judge .nearCapacity (s.swapTables.cause .nearCapacity)).judgeBunk :=
  rfl

/-! ### The entry actions (R37) -/

/-- Steps 1 to 3 of the entry actions, with the open set that PARK discards (R37, R41, R130). -/
def State.entry (g : GuardState) (byExpiry : Bool) (s : State) : State :=
  { s with
    guard := s.guard.enter g (watchAfterEntry s.banks.active g byExpiry s.guard.watch)
    openSet := openSetAfterEntry g s.openSet }

/-- `entry` changes `guard`, `openSet` and no other field. -/
@[simp] theorem State.entry_frame (g : GuardState) (byExpiry : Bool) (s : State) :
    (s.entry g byExpiry).line = s.line ∧ (s.entry g byExpiry).router = s.router ∧ (s.entry g byExpiry).unit = s.unit
      ∧ (s.entry g byExpiry).tip = s.tip ∧ (s.entry g byExpiry).capacity = s.capacity
      ∧ (s.entry g byExpiry).lift = s.lift ∧ (s.entry g byExpiry).tally = s.tally
      ∧ (s.entry g byExpiry).banks = s.banks ∧ (s.entry g byExpiry).store = s.store
      ∧ (s.entry g byExpiry).conditions = s.conditions ∧ (s.entry g byExpiry).pins = s.pins :=
  ⟨rfl, rfl, rfl, rfl, rfl, rfl, rfl, rfl, rfl, rfl, rfl⟩

/-- A change of guard state: the guard's own actions, the Lift Unit's, and the attempt of a pending commit (R37). -/
theorem State.enterGuard_changed {s : State} {g : GuardState} (other : s.guard.state ≠ g) (byExpiry : Bool) :
    s.enterGuard g byExpiry = ((s.entry g byExpiry).liftGuardChange g).attemptSwap :=
  if_neg other

/-! ### A tip position at the guard (R40, R41, R43) -/

/-- What a tip position writes into the guard, before the fourth of a warm-up enters ENFORCE. -/
def EnvelopeGuard.tipSeen (duration : Nat) (u : EnvelopeGuard) : EnvelopeGuard :=
  match u.state with
  | .hold => { u with stale := false, watch := some duration, warmUp := u.warmUp + 1 }
  | .enforce => { u with stale := false, watch := some duration }
  | .blocked | .service | .park => { u with stale := false }

/-- A tip position leaves the guard's state, its quiet flag, the limit flags and VEN, and ends the SAMPLE_STALE cause. -/
@[simp] theorem EnvelopeGuard.tipSeen_frame (duration : Nat) (u : EnvelopeGuard) :
    (u.tipSeen duration).state = u.state ∧ (u.tipSeen duration).quiet = u.quiet
      ∧ (u.tipSeen duration).limitFlags = u.limitFlags ∧ (u.tipSeen duration).forceTest = u.forceTest
      ∧ (u.tipSeen duration).ven = u.ven ∧ (u.tipSeen duration).stale = false := by
  unfold EnvelopeGuard.tipSeen
  split <;> simp_all

/-- The state after a tip position at the guard, before the fourth of a warm-up enters ENFORCE. -/
def State.tipSeen (s : State) : State :=
  { s with guard := s.guard.tipSeen (s.banks.active.setting .staleTimeout) }

/-- `tipSeen` changes `guard` and no other field. -/
@[simp] theorem State.tipSeen_frame (s : State) :
    s.tipSeen.line = s.line ∧ s.tipSeen.router = s.router ∧ s.tipSeen.unit = s.unit ∧ s.tipSeen.openSet = s.openSet
      ∧ s.tipSeen.tip = s.tip ∧ s.tipSeen.capacity = s.capacity ∧ s.tipSeen.lift = s.lift ∧ s.tipSeen.tally = s.tally
      ∧ s.tipSeen.banks = s.banks ∧ s.tipSeen.store = s.store ∧ s.tipSeen.conditions = s.conditions
      ∧ s.tipSeen.pins = s.pins
      ∧ s.tipSeen.guard = s.guard.tipSeen (s.banks.active.setting .staleTimeout) :=
  ⟨rfl, rfl, rfl, rfl, rfl, rfl, rfl, rfl, rfl, rfl, rfl, rfl, rfl⟩

/-- The fourth tip position of a warm-up enters ENFORCE; every other one is only seen (R40). -/
theorem State.guardTake_eq (s : State) :
    s.guardTake
      = if s.guard.state = .hold ∧ warmUpLimit ≤ s.guard.warmUp + 1 then s.tipSeen.enterGuard .enforce false
        else s.tipSeen := by
  cases state : s.guard.state <;>
    simp only [State.guardTake, State.tipSeen, EnvelopeGuard.tipSeen, state] <;> simp

/-! ### A DEMAND frame at the guard (R52, R60) -/

/-- The limit flags written and ZONE_STOP latched (R57, R61). -/
def State.demandJudged (out : List Filtered) (s : State) : State := (s.writeFlags out).latchZoneStop out

/-- `demandJudged` changes `guard`, `conditions` and no other field. -/
@[simp] theorem State.demandJudged_frame (out : List Filtered) (s : State) :
    (s.demandJudged out).line = s.line ∧ (s.demandJudged out).router = s.router ∧ (s.demandJudged out).unit = s.unit
      ∧ (s.demandJudged out).openSet = s.openSet ∧ (s.demandJudged out).tip = s.tip
      ∧ (s.demandJudged out).capacity = s.capacity ∧ (s.demandJudged out).lift = s.lift
      ∧ (s.demandJudged out).tally = s.tally ∧ (s.demandJudged out).banks = s.banks
      ∧ (s.demandJudged out).store = s.store ∧ (s.demandJudged out).pins = s.pins := by
  simp [State.demandJudged]

/-- The guard after a demand has been judged: its limit flags alone may differ (R61). -/
theorem State.demandJudged_guard (out : List Filtered) (s : State) :
    (s.demandJudged out).guard = s.guard
      ∨ (s.demandJudged out).guard = { s.guard with limitFlags := out.map (·.flag) } := by
  unfold State.demandJudged State.writeFlags
  split
  · exact .inl (by simp)
  · exact .inr (by simp)

/-- The filtered frame in the crane-bound queue and the quiet flag written (R60, R62). -/
def State.demandJoined (f : Frame) (still : Bool) (s : State) : State :=
  { s with
    line := { s.line with craneQueue := s.line.craneQueue ++ [f] }
    guard := { s.guard with quiet := still } }

/-- `demandJoined` changes `line`, `guard` and no other field. -/
@[simp] theorem State.demandJoined_frame (f : Frame) (still : Bool) (s : State) :
    (s.demandJoined f still).router = s.router ∧ (s.demandJoined f still).unit = s.unit
      ∧ (s.demandJoined f still).openSet = s.openSet ∧ (s.demandJoined f still).tip = s.tip
      ∧ (s.demandJoined f still).capacity = s.capacity ∧ (s.demandJoined f still).lift = s.lift
      ∧ (s.demandJoined f still).tally = s.tally ∧ (s.demandJoined f still).banks = s.banks
      ∧ (s.demandJoined f still).store = s.store ∧ (s.demandJoined f still).conditions = s.conditions
      ∧ (s.demandJoined f still).pins = s.pins
      ∧ (s.demandJoined f still).guard = { s.guard with quiet := still }
      ∧ (s.demandJoined f still).line = { s.line with craneQueue := s.line.craneQueue ++ [f] } :=
  ⟨rfl, rfl, rfl, rfl, rfl, rfl, rfl, rfl, rfl, rfl, rfl, rfl, rfl⟩

/-- What a DEMAND frame handed to the guard does: nothing in BLOCKED and PARK; elsewhere its demands are filtered, and the
frame joins its queue, with the attempt of a pending commit where every motion demand is 0, or is dropped (R52, R60, R114,
R144). -/
theorem State.guardDemand_cases (s : State) (f : Frame) :
    s.guardDemand f = s
      ∨ ((s.guard.state = .hold ∨ s.guard.state = .enforce ∨ s.guard.state = .service)
        ∧ ∃ out, out = s.filterDemands (demandsOf f.payload)
          ∧ (s.guardDemand f = (s.demandJudged out).latch .fwdDrop
            ∨ (s.line.craneQueue.length < queueLimit
              ∧ (s.guardDemand f = (s.demandJudged out).demandJoined (filteredFrame f out) (s.allStill out)
                ∨ (s.allStill out = true
                  ∧ s.guardDemand f
                    = ((s.demandJudged out).demandJoined (filteredFrame f out) true).attemptSwap))))) := by
  rw [State.guardDemand_eq]
  split_ifs with idle
  · exact .inl rfl
  · refine .inr ⟨by cases state : s.guard.state <;> simp_all, _, rfl, ?_⟩
    generalize s.filterDemands (demandsOf f.payload) = out
    have judged : (s.writeFlags out).latchZoneStop out = s.demandJudged out := rfl
    have stays := s.allStill_written out
    rw [judged] at stays ⊢
    rw [State.joinFiltered_eq]
    split_ifs with room still
    · refine .inr ⟨by simpa using room, .inr ⟨by rwa [← stays], ?_⟩⟩
      rw [still]
      rfl
    · refine .inr ⟨by simpa using room, .inl ?_⟩
      rw [← stays]
      rfl
    · exact .inl rfl

/-! ### Taking a command (R156) -/

/-- A command taken: carried out after its window step, and its reply placed (R115, R156). -/
theorem takeCommand_eq (f : Frame) (judge : State → Answer) (s : State) :
    takeCommand f judge s
      = (judge (s.windowStep f.payload)).state.placeReply (replyOf f (judge (s.windowStep f.payload))) :=
  rfl

/-! ### The end of a store (R152) -/

/-- The outcome of a store, with the store state IDLE again. -/
def State.storeRead (image : Bytes) (s : State) : State :=
  { s.storeOutcome image with store := { (s.storeOutcome image).store with state := .idle } }

/-- `storeRead` changes `store`, `conditions` and no other field. -/
@[simp] theorem State.storeRead_frame (image : Bytes) (s : State) :
    (s.storeRead image).line = s.line ∧ (s.storeRead image).router = s.router ∧ (s.storeRead image).unit = s.unit
      ∧ (s.storeRead image).openSet = s.openSet ∧ (s.storeRead image).tip = s.tip
      ∧ (s.storeRead image).capacity = s.capacity ∧ (s.storeRead image).guard = s.guard
      ∧ (s.storeRead image).lift = s.lift ∧ (s.storeRead image).tally = s.tally
      ∧ (s.storeRead image).banks = s.banks ∧ (s.storeRead image).pins = s.pins := by
  simp [State.storeRead]

/-- What a store leaves in the Image Store. -/
@[simp] theorem State.storeRead_store (image : Bytes) (s : State) :
    (s.storeRead image).store
      = ⟨image, image == writtenImage s.banks.active && imageMatches image, .idle, s.store.reading⟩ := by
  unfold State.storeRead State.storeOutcome
  dsimp only
  split
  · next good => simp only [good, State.latch_frame]
  · next bad =>
    rw [Bool.eq_false_iff.mpr bad]
    simp [State.imageFailed]

/-- A store's outcome, IDLE, and then the attempt of a pending commit (R152). -/
theorem State.endStore_eq (s : State) (left : List ByteChange) :
    s.endStore left = (s.storeRead (changeBytes (writtenImage s.banks.active) left)).attemptSwap :=
  rfl

end Sys2Proof.Machine

/-! PROOFS. The latched conditions under every event: a latch stands until it is cleared, and a cause that becomes present is
judged (spec/10, R163, R164) -/

namespace Sys2Proof.Machine

/-! ### Operations that latch what they cause -/

/-- An operation from `s` to `t` keeps every latch, and a cause that is present after it was present before or is latched. -/
structure Latching (s t : State) : Prop where
  /-- What is latched stays latched. -/
  latches : ∀ k, s.isLatched k = true → t.isLatched k = true
  /-- A cause that has become present is latched. -/
  causes : ∀ k, t.cause k = true → s.cause k = true ∨ t.isLatched k = true

/-- Nothing done. -/
theorem Latching.refl (s : State) : Latching s s := ⟨fun _ h => h, fun _ h => .inl h⟩

/-- One operation after another. -/
theorem Latching.trans {s t u : State} (first : Latching s t) (second : Latching t u) : Latching s u where
  latches k h := second.latches k (first.latches k h)
  causes k h := by
    obtain before | after := second.causes k h
    · obtain start | between := first.causes k before
      · exact .inl start
      · exact .inr (second.latches k between)
    · exact .inr after

/-- An operation that keeps the latched set and everything a cause looks at. -/
theorem Latching.of_eq {s t : State} (latched : t.conditions.latched = s.conditions.latched)
    (image : t.store.imageValid = s.store.imageValid) (stale : t.guard.stale = s.guard.stale)
    (test : t.guard.forceTest = s.guard.forceTest) (tip : t.tip = s.tip)
    (overload : t.capacity.overload = s.capacity.overload) (active : t.banks.active = s.banks.active)
    (tallies : t.tally.tallies = s.tally.tallies) : Latching s t where
  latches k h := by rwa [State.isLatched_congr latched]
  causes k h := .inl (by rwa [State.cause_congr image stale test tip overload active tallies] at h)

/-- A latch. -/
theorem Latching.latch (s : State) (k : Condition) : Latching s (s.latch k) where
  latches j h := by simp [h]
  causes j h := .inl (by simpa using h)

/-- A latch where a test decides. -/
theorem Latching.judge (s : State) (k : Condition) (cause : Bool) : Latching s (s.judge k cause) where
  latches j h := by simp [h]
  causes j h := .inl (by simpa using h)

/-- An operation under which only some causes change, all of them judged after it. -/
theorem Latching.of_judged {s t : State} (changed : List Condition) (kept : ∀ k, k ∉ changed → t.cause k = s.cause k)
    (latches : ∀ k, s.isLatched k = true → t.isLatched k = true)
    (judged : ∀ k, k ∈ changed → t.cause k = true → t.isLatched k = true) : Latching s t where
  latches := latches
  causes k h := by
    by_cases touched : k ∈ changed
    · exact .inr (judged k touched h)
    · exact .inl (by rwa [kept k touched] at h)

/-! ### Causes that an operation leaves -/

/-- The causes that look at the active bank or at the tallies. -/
def tableCauses : List Condition := [.nearCapacity, .bunkNear, .bunkFull]

/-- The other causes look at the image-valid flag, the guard, the tip and the overload state. -/
theorem State.cause_congr_tables {s t : State} (image : t.store.imageValid = s.store.imageValid)
    (stale : t.guard.stale = s.guard.stale) (test : t.guard.forceTest = s.guard.forceTest) (tip : t.tip = s.tip)
    (overload : t.capacity.overload = s.capacity.overload) {k : Condition} (other : k ∉ tableCauses) :
    t.cause k = s.cause k := by
  cases k <;> simp_all [tableCauses, State.cause, State.outOfMapCause, State.zoneViolationCause]

/-- The causes that look at the tallies (R92). -/
def bunkCauses : List Condition := [.bunkNear, .bunkFull]

/-- The other causes look at everything else. -/
theorem State.cause_congr_bunk {s t : State} (image : t.store.imageValid = s.store.imageValid)
    (stale : t.guard.stale = s.guard.stale) (test : t.guard.forceTest = s.guard.forceTest) (tip : t.tip = s.tip)
    (overload : t.capacity.overload = s.capacity.overload) (active : t.banks.active = s.banks.active) {k : Condition}
    (other : k ∉ bunkCauses) : t.cause k = s.cause k := by
  cases k <;>
    simp_all [bunkCauses, State.cause, State.outOfMapCause, State.zoneViolationCause, State.nearCapacityCause]

/-- The bunk causes look at the active bank and the tallies (R92). -/
theorem State.bunkCauses_congr {s t : State} (active : t.banks.active = s.banks.active)
    (tallies : t.tally.tallies = s.tally.tallies) :
    t.cause .bunkNear = s.cause .bunkNear ∧ t.cause .bunkFull = s.cause .bunkFull := by
  have near : t.bunkNearCause = s.bunkNearCause := by
    unfold State.bunkNearCause TallyUnit.bunkTotal
    rw [active, tallies]
  have full : t.bunkFullCause = s.bunkFullCause := by
    unfold State.bunkFullCause TallyUnit.bunkTotal
    rw [active, tallies]
  exact ⟨near, full⟩

/-- The causes that a tip position decides (R19, R32, R33). -/
def tipCauses : List Condition := [.outOfMap, .zoneViolation, .overload, .nearCapacity]

/-- The other causes look at the image-valid flag, the guard, the active bank and the tallies. -/
theorem State.cause_congr_tip {s t : State} (image : t.store.imageValid = s.store.imageValid)
    (stale : t.guard.stale = s.guard.stale) (test : t.guard.forceTest = s.guard.forceTest)
    (active : t.banks.active = s.banks.active) (tallies : t.tally.tallies = s.tally.tallies) {k : Condition}
    (other : k ∉ tipCauses) : t.cause k = s.cause k := by
  obtain ⟨near, full⟩ := State.bunkCauses_congr active tallies
  cases k
  case outOfMap | zoneViolation | overload | nearCapacity => exact absurd (by decide) other
  case bunkNear => exact near
  case bunkFull => exact full
  all_goals simp [State.cause, image, stale, test]

/-- A judgement of the bunk conditions changes no cause. -/
@[simp] theorem State.cause_judgeBunk (s : State) (k : Condition) : s.judgeBunk.cause k = s.cause k := by
  simp [State.judgeBunk_eq]

/-- A judgement of the bunk conditions adds those of them whose causes are present (R92). -/
@[simp] theorem State.isLatched_judgeBunk (s : State) (k : Condition) :
    s.judgeBunk.isLatched k
      = (s.isLatched k || (s.cause .bunkNear && Condition.bunkNear == k) || (s.cause .bunkFull && Condition.bunkFull == k)) := by
  simp [State.judgeBunk_eq]

/-- After a judgement of the bunk conditions those with a cause are latched. -/
theorem State.judgeBunk_latched {s : State} {k : Condition} (bunk : k ∈ bunkCauses) (cause : s.cause k = true) :
    s.judgeBunk.isLatched k = true := by
  obtain rfl | rfl : k = .bunkNear ∨ k = .bunkFull := by simpa [bunkCauses] using bunk
  · simp [cause]
  · simp [cause]

/-- A change of the tallies whose bunk conditions are judged. -/
theorem Latching.judgeBunk {s u : State} (latches : ∀ k, s.isLatched k = true → u.isLatched k = true)
    (kept : ∀ k, k ∉ bunkCauses → u.cause k = s.cause k) : Latching s u.judgeBunk :=
  .of_judged bunkCauses (fun k other => by simpa using kept k other)
    (fun k h => by simp [latches k h])
    (fun k bunk cause => State.judgeBunk_latched bunk (by simpa using cause))

/-! ### The Table Banks and the Tally Unit -/

/-- A swap judges NEAR_CAPACITY and the bunk conditions on the new tables (R33, R92, R145). -/
theorem Latching.swap (s : State) : Latching s s.swap := by
  have kept : ∀ k, k ∉ tableCauses → s.swapTables.cause k = s.cause k :=
    fun k other => State.cause_congr_tables (by rfl) (by rfl) (by rfl) (by rfl) (by rfl) other
  have latches : ∀ k, s.isLatched k = true → s.swapTables.isLatched k = true := fun _ h => h
  rw [State.swap_eq]
  generalize s.swapTables = u at kept latches
  refine .of_judged tableCauses (fun k other => by simpa using kept k other) (fun k h => by simp [latches k h])
    fun k judged cause => ?_
  simp only [tableCauses, List.mem_cons, List.not_mem_nil, or_false] at judged
  simp only [State.cause_judgeBunk, State.cause_judge, State.cause_latch] at cause
  obtain rfl | rfl | rfl := judged <;> simp [cause]

/-- An attempt swaps or does nothing (R144). -/
theorem Latching.attemptSwap (s : State) : Latching s s.attemptSwap := by
  obtain same | ⟨-, -, swapped⟩ := s.attemptSwap_cases
  · rw [same]
    exact .refl s
  · rw [swapped]
    exact .swap s

/-- A record joins the queue or is dropped (R99). -/
theorem Latching.queueRecord (s : State) (r : LiftRecord) : Latching s (s.queueRecord r) := by
  unfold State.queueRecord
  split
  · exact .of_eq rfl rfl rfl rfl rfl rfl rfl rfl
  · exact .latch s _

/-- A booked record has its bunk conditions judged (R89, R92). -/
theorem Latching.bookRecord (s : State) (r : LiftRecord) : Latching s (s.bookRecord r) := by
  unfold State.bookRecord
  dsimp only
  refine Latching.trans (Latching.judgeBunk (fun k h => ?_) fun k other => ?_) (.queueRecord _ _)
  · split
    · exact (Latching.latch _ _).latches k h
    · exact h
  · split
    · rw [State.cause_latch]
      exact State.cause_congr_bunk (by rfl) (by rfl) (by rfl) (by rfl) (by rfl) (by rfl) other
    · exact State.cause_congr_bunk (by rfl) (by rfl) (by rfl) (by rfl) (by rfl) (by rfl) other

/-! ### The Lift Unit -/

/-- An operation on the Lift Unit alone. -/
theorem Latching.lift (s : State) (u : LiftUnit) : Latching s { s with lift := u } :=
  .of_eq rfl rfl rfl rfl rfl rfl rfl rfl

/-- A search that fails (R85). -/
theorem Latching.failSearch (s : State) : Latching s s.failSearch := by
  obtain ⟨-, same⟩ | ⟨-, failed⟩ := s.failSearch_cases
  · rw [same]
    exact .refl s
  · rw [failed]
    exact (Latching.lift s _).trans (.latch _ _)

/-- The end of a lift with its record (R79). -/
theorem Latching.endLiftRecorded (s : State) (kind : LiftKind) (release : Option Cell) :
    Latching s (s.endLiftRecorded kind release) := by
  unfold State.endLiftRecorded
  split
  · exact (Latching.lift s _).trans (.bookRecord _ _)
  · exact .lift s _

/-- A lift that is abandoned (R80). -/
theorem Latching.abandonLift (s : State) : Latching s s.abandonLift := by
  unfold State.abandonLift
  split
  · exact .refl s
  · exact .lift s _
  · exact (Latching.endLiftRecorded s _ _).trans (.latch _ _)
  · exact (Latching.endLiftRecorded s _ _).trans (.latch _ _)

/-- The Lift Unit is told the guard state (R37). -/
theorem Latching.liftGuardChange (s : State) (g : GuardState) : Latching s (s.liftGuardChange g) := by
  cases g with
  | blocked => exact .abandonLift s
  | hold => exact .lift s _
  | enforce => exact .refl s
  | service => exact (Latching.abandonLift s).trans (.failSearch _)
  | park => exact (Latching.abandonLift s).trans (.failSearch _)

/-- OVERLOAD_SEEN (R74). -/
theorem Latching.markOverload (s : State) : Latching s s.markOverload := by
  unfold State.markOverload
  split
  · exact .lift s _
  · exact .refl s

/-- Clearing and weighing touch the Lift Unit alone (R70 to R73). -/
theorem Latching.clearStep_weighStep (s : State) (t : TipPosition) :
    Latching s (s.clearStep t) ∧ Latching s (s.weighStep t) := by
  constructor
  · unfold State.clearStep
    split_ifs <;> exact .lift s _
  · unfold State.weighStep
    dsimp only
    split_ifs <;> exact .lift s _

/-- A release with a load aloft (R76, R79). -/
theorem Latching.releaseAloft (s : State) (t : TipPosition) : Latching s (s.releaseAloft t) :=
  (Latching.endLiftRecorded s _ _).trans (.attemptSwap _)

/-- The lift state machine (R68 to R76). -/
theorem Latching.liftStep (s : State) (e : GrappleEvent) (t : TipPosition) : Latching s (s.liftStep e t) := by
  have marked := Latching.markOverload s
  unfold State.liftStep
  split
  · exact (Latching.lift s _).trans (.markOverload _)
  · exact .refl s
  · exact .refl s
  · exact (marked.trans (.lift _ _)).trans (.attemptSwap _)
  · exact marked.trans (Latching.clearStep_weighStep _ t).1
  · exact marked.trans (Latching.clearStep_weighStep _ t).1
  · exact marked.trans (.releaseAloft _ t)
  · exact marked.trans (Latching.clearStep_weighStep _ t).2
  · exact marked.trans (Latching.clearStep_weighStep _ t).2
  · exact marked.trans (.releaseAloft _ t)
  · exact marked.trans (Latching.clearStep_weighStep _ t).2
  · exact marked.trans (Latching.clearStep_weighStep _ t).2

/-- The tare search (R84). -/
theorem Latching.tareStep (s : State) (t : TipPosition) : Latching s (s.tareStep t) := by
  unfold State.tareStep
  split
  · exact .refl s
  · dsimp only
    split_ifs
    · exact (Latching.lift s _).trans (.latch _ _)
    · exact .failSearch s
    · exact .failSearch s
    · exact .lift s _

/-- The grapple, and the end of a tare search at a grip (R66, R85). -/
theorem Latching.grappleStep (s : State) (t : TipPosition) : Latching s (s.grappleStep t) := by
  unfold State.grappleStep
  dsimp only
  split
  · exact (Latching.lift s _).trans (.failSearch _)
  · exact .lift s _

/-- A tip position at the Lift Unit (R65). -/
theorem Latching.liftTake (s : State) (t : TipPosition) : Latching s (s.liftTake t) := by
  have gripped := Latching.grappleStep s t
  unfold State.liftTake
  dsimp only
  split
  · exact (gripped.trans (.liftStep _ _ t)).trans (.tareStep _ t)
  · exact gripped.trans (.tareStep _ t)

/-! ### The Envelope Guard and the Capacity Monitor -/

/-- An operation on the guard that keeps the SAMPLE_STALE cause or ends it, and keeps the force test. -/
theorem Latching.guard (s : State) (u : EnvelopeGuard) (stale : u.stale = s.guard.stale ∨ u.stale = false)
    (test : u.forceTest = s.guard.forceTest) : Latching s { s with guard := u } where
  latches _ h := h
  causes k h := by
    have kept : k ≠ .sampleStale → ({ s with guard := u } : State).cause k = s.cause k := by
      intro other
      cases k <;>
        simp_all [State.cause, State.outOfMapCause, State.zoneViolationCause, State.nearCapacityCause,
          State.bunkNearCause, State.bunkFullCause]
    by_cases isStale : k = .sampleStale
    · subst isStale
      obtain same | ended := stale
      · exact .inl (by simpa [State.cause, same] using h)
      · simp [State.cause, ended] at h
    · exact .inl (by rwa [kept isStale] at h)

/-- The entry actions (R37). -/
theorem Latching.enterGuard (s : State) (g : GuardState) (byExpiry : Bool) : Latching s (s.enterGuard g byExpiry) := by
  by_cases same : s.guard.state = g
  · rw [State.enterGuard_same same]
    exact .refl s
  · rw [State.enterGuard_changed same]
    have entered : Latching s (s.entry g byExpiry) := .of_eq rfl rfl rfl rfl rfl rfl rfl rfl
    exact (entered.trans (.liftGuardChange _ g)).trans (.attemptSwap _)

/-- A tip position at the guard ends the SAMPLE_STALE cause (R43). -/
theorem Latching.guardTake (s : State) : Latching s s.guardTake := by
  have seen : Latching s s.tipSeen := .guard s _ (.inr (by simp)) (by simp)
  rw [State.guardTake_eq]
  split
  · exact seen.trans (.enterGuard _ _ _)
  · exact seen

/-- An expiry latches SAMPLE_STALE (R42, R43). -/
theorem Latching.watchExpires (s : State) : Latching s s.watchExpires := by
  refine .of_judged [.sampleStale] (fun k other => ?_) (fun k h => ?_) fun k stale _ => ?_
  · rw [State.watchExpires, State.cause_latch]
    cases k <;>
      simp_all [State.cause, State.outOfMapCause, State.zoneViolationCause, State.nearCapacityCause, State.bunkNearCause,
        State.bunkFullCause]
  · exact (Latching.latch _ _).latches k h
  · rw [List.mem_singleton.mp stale]
    simp [State.watchExpires]

/-- WATCH_EXPIRY (R42). -/
theorem Latching.watchExpiry (s : State) : Latching s s.watchExpiry := by
  unfold State.watchExpiry
  split
  · exact (Latching.watchExpires s).trans (.enterGuard _ _ _)
  · exact (Latching.watchExpires s).trans (.guard _ _ (.inl rfl) rfl)
  all_goals exact .refl s

/-- SKEY_DEASSERT (R47). -/
theorem Latching.keyLost (s : State) : Latching s s.keyLost := by
  have released : Latching s { s with pins := { s.pins with skey := false } } := .of_eq rfl rfl rfl rfl rfl rfl rfl rfl
  unfold State.keyLost
  dsimp only
  split
  · exact (released.trans (.enterGuard _ _ _)).trans (.latch _ _)
  · exact released

/-- The force test judges FORCED (R50). -/
theorem Latching.setForceTest (s : State) (on : Bool) : Latching s (s.setForceTest on) := by
  unfold State.setForceTest
  split
  · exact .refl s
  · refine .of_judged [.forced] (fun k other => ?_) (fun k h => ?_) fun k forced cause => ?_
    · dsimp only
      rw [State.cause_judge]
      cases k
      case forced => exact absurd (by decide) other
      all_goals rfl
    · exact (Latching.judge _ _ _).latches k h
    · rw [List.mem_singleton.mp forced] at cause ⊢
      have set : on = true := by simpa [State.cause, State.driveVen] using cause
      simp [set]

/-- A tip position's conditions are judged on it (R19, R32, R33). -/
theorem Latching.takeRecord (s : State) (t : TipPosition) : Latching s (s.takeRecord t) := by
  refine .of_judged tipCauses
    (fun k => State.cause_congr_tip (by simp) (by simp) (by simp) (by simp) (by simp)) (fun k h => ?_) fun k judged cause => ?_
  · unfold State.takeRecord
    simp only [State.isLatched_judge, Bool.or_eq_true]
    exact .inl (.inl (.inl (.inl h)))
  · unfold State.takeRecord at cause ⊢
    simp only [State.cause_judge, State.named_causes] at cause ⊢
    simp only [tipCauses, List.mem_cons, List.not_mem_nil, or_false] at judged
    obtain rfl | rfl | rfl | rfl := judged
    · simp [cause]
    · simp [cause]
    · simp only [State.cause] at cause
      simp [cause]
    · simp [cause]

/-- A complete set (R3). -/
theorem Latching.deliver (s : State) (x : SampleSet) : Latching s (s.deliver x) := by
  rw [State.deliver_eq]
  exact ((Latching.takeRecord s _).trans (.guardTake _)).trans (.liftTake _ _)

/-! ### Frames -/

/-- A SAMPLE frame (R126). -/
theorem Latching.snoop (s : State) (f : Frame) : Latching s (s.snoop f) := by
  have openSet : ∀ o : Option OpenSet, Latching s { s with openSet := o } :=
    fun o => .of_eq rfl rfl rfl rfl rfl rfl rfl rfl
  unfold State.snoop
  split
  · dsimp only
    split
    · split
      · exact (openSet none).trans (.deliver _ _)
      · exact openSet _
    · exact .refl s
  · exact .refl s

/-- A SYNC frame (R125, R128). -/
theorem Latching.takeSync (s : State) (sequence : Byte) : Latching s (s.takeSync sequence) := by
  have lost : s.guard.lostSet.stale = s.guard.stale ∧ s.guard.lostSet.forceTest = s.guard.forceTest := by
    unfold EnvelopeGuard.lostSet
    split <;> exact ⟨rfl, rfl⟩
  unfold State.takeSync
  dsimp only
  split
  · exact .of_eq rfl rfl lost.1 lost.2 rfl rfl rfl rfl
  · exact .of_eq rfl rfl rfl rfl rfl rfl rfl rfl

/-- Frames placed in the two output queues (R114, R115). -/
theorem Latching.forward (s : State) (f : Frame) : Latching s (s.forwardCrane f) ∧ Latching s (s.forwardCab f) := by
  constructor
  · obtain ⟨-, joined⟩ | ⟨-, dropped⟩ := s.forwardCrane_cases f
    · rw [joined]
      exact .of_eq rfl rfl rfl rfl rfl rfl rfl rfl
    · rw [dropped]
      exact .latch s _
  · obtain ⟨-, joined⟩ | ⟨-, dropped⟩ := s.forwardCab_cases f
    · rw [joined]
      exact .of_eq rfl rfl rfl rfl rfl rfl rfl rfl
    · rw [dropped]
      exact .latch s _

/-- A reply placed changes no condition (R115, R116). -/
theorem Latching.placeReply (s : State) (r : OutFrame) : Latching s (s.placeReply r) :=
  .of_eq (by simp) (by simp) (by simp) (by simp) (by simp) (by simp) (by simp) (by simp)

/-- A DEMAND frame (R52, R60). -/
theorem Latching.guardDemand (s : State) (f : Frame) : Latching s (s.guardDemand f) := by
  have judged : ∀ out, Latching s (s.demandJudged out) := by
    intro out
    have written : Latching s (s.writeFlags out) := by
      unfold State.writeFlags
      split
      · exact .refl s
      · exact .guard s _ (.inl rfl) rfl
    refine written.trans ?_
    unfold State.demandJudged State.latchZoneStop
    split
    · exact .latch _ _
    · exact .refl _
  have joined : ∀ (u : State) (g : Frame) (still : Bool), Latching u (u.demandJoined g still) :=
    fun u g still => .of_eq rfl rfl rfl rfl rfl rfl rfl rfl
  obtain same | ⟨-, out, -, dropped | ⟨-, waits | ⟨-, attempted⟩⟩⟩ := s.guardDemand_cases f
  · rw [same]
    exact .refl s
  · rw [dropped]
    exact (judged out).trans (.latch _ _)
  · rw [waits]
    exact (judged out).trans (joined _ _ _)
  · rw [attempted]
    exact ((judged out).trans (joined _ _ _)).trans (.attemptSwap _)

end Sys2Proof.Machine

/-! PROOFS. Every persistent condition whose cause is present is latched (spec/10, R163, R164) -/

namespace Sys2Proof.Machine

/-! ### The Image Store -/

/-- An operation on the Image Store that keeps the image-valid flag or sets it. -/
theorem Latching.store (s : State) (u : ImageStore)
    (valid : u.imageValid = s.store.imageValid ∨ u.imageValid = true) : Latching s { s with store := u } where
  latches _ h := h
  causes k h := by
    by_cases image : k = .imageInvalid
    · subst image
      obtain same | set := valid
      · exact .inl (by simpa [State.cause, same] using h)
      · simp [State.cause, set] at h
    · have kept : ({ s with store := u } : State).cause k = s.cause k := by
        cases k
        case imageInvalid => exact absurd rfl image
        all_goals rfl
      exact .inl (by rwa [kept] at h)

/-- Clearing the image-valid flag latches IMAGE_INVALID (R149). -/
theorem Latching.imageFailed (s : State) : Latching s s.imageFailed := by
  refine .of_judged [.imageInvalid] (fun k other => ?_) (fun k h => ?_) fun k image _ => ?_
  · rw [State.imageFailed, State.cause_latch]
    cases k
    case imageInvalid => exact absurd (by decide) other
    all_goals rfl
  · exact (Latching.latch _ _).latches k h
  · rw [List.mem_singleton.mp image]
    simp [State.imageFailed]

/-- STORE_END (R152). -/
theorem Latching.endStore (s : State) (left : List ByteChange) : Latching s (s.endStore left) := by
  have outcome : ∀ image : Bytes, Latching s (s.storeOutcome image) := by
    intro image
    have read : Latching s { s with store := { s.store with image := image } } := .store s _ (.inl rfl)
    unfold State.storeOutcome
    dsimp only
    split
    · exact Latching.trans (.store s _ (.inr rfl)) (.latch _ _)
    · exact Latching.trans (Latching.trans read (.latch _ _)) (.imageFailed _)
  have read : ∀ image : Bytes, Latching s (s.storeRead image) :=
    fun image => (outcome image).trans (.store _ _ (.inl rfl))
  rw [State.endStore_eq]
  exact (read _).trans (.attemptSwap _)

/-- RELOAD_END (R154). -/
theorem Latching.endReload (s : State) : Latching s s.endReload := by
  unfold State.endReload
  dsimp only
  split
  · exact .of_eq rfl rfl rfl rfl rfl rfl rfl rfl
  · exact (Latching.imageFailed s).trans (.store _ _ (.inl rfl))

/-! ### The invariant -/

/-- An operation that judges what it causes keeps the invariant, unless it ends an image read. -/
theorem State.LatchedOk.of_latching {s t : State} (h : s.LatchedOk) (done : Latching s t)
    (reading : t.store.reading = s.store.reading) : t.LatchedOk := by
  intro read k cause
  obtain before | latched := done.causes k cause
  · exact done.latches k (h (by rwa [← reading]) k before)
  · exact latched

/-- A state in an image read meets the invariant. -/
theorem State.latchedOk_of_reading {s : State} (reading : s.store.reading = true) : s.LatchedOk :=
  fun read => absurd (reading.symm.trans read) (by decide)

/-- A clear leaves a condition latched whose cause is present (R164). -/
theorem State.LatchedOk.cleared {s : State} (h : s.LatchedOk) (mask : Nat) :
    ({ s with conditions := { s.conditions with latched := s.latchedAfterClear mask } } : State).LatchedOk := by
  intro read k cause
  have cause : s.cause k = true := cause
  change (s.latchedAfterClear mask).getLsbD k.bit = true
  rw [State.latchedAfterClear_getLsbD, h read k cause, cause]
  simp

/-- Carrying out a command keeps the invariant. -/
theorem State.LatchedOk.judged {s t : State} (h : s.LatchedOk) (judged : Judged s t) : t.LatchedOk := by
  cases judged with
  | cleared mask => exact h.cleared mask
  | entered g => exact h.of_latching (.enterGuard s g false) (by simp)
  | forced on => exact h.of_latching (.setForceTest s on) (by simp)
  | swapped => exact h.of_latching (.swap s) (by simp)
  | emptied =>
    refine h.of_latching (Latching.judgeBunk (fun _ latched => latched) fun k other => ?_) (by simp)
    exact State.cause_congr_bunk (by rfl) (by rfl) (by rfl) (by rfl) (by rfl) (by rfl) other
  | same => exact h
  | sought => exact h.of_latching (.lift s _) rfl
  | stored => exact h.of_latching (.of_eq rfl rfl rfl rfl rfl rfl rfl rfl) rfl
  | reloaded => exact h.of_latching (.of_eq rfl rfl rfl rfl rfl rfl rfl rfl) rfl
  | assigned | opened | written | pended | cancelled | selected | fetched | pendedReset =>
    exact h.of_latching (.of_eq rfl rfl rfl rfl rfl rfl rfl rfl) rfl

/-- The end of an image read judges IMAGE_INVALID and the bunk conditions; every other block holds its reset value, which has
no cause (R150, R166). -/
theorem State.ReadingOk.endImageRead_latched {s : State} (h : s.ReadingOk) (reading : s.store.reading = true) :
    s.endImageRead.LatchedOk := by
  obtain ⟨-, tip, capacity, guard, -⟩ := h reading
  intro _ k cause
  unfold State.endImageRead at cause ⊢
  dsimp only at cause ⊢
  simp only [State.cause_judgeBunk, State.cause_judge] at cause
  by_cases bunk : k ∈ bunkCauses
  · exact State.judgeBunk_latched bunk (by simpa only [State.cause_judge] using cause)
  · cases k
    case imageInvalid =>
      have failed : (!imageMatches s.store.image) = true := cause
      simp [failed]
    case bunkNear | bunkFull => exact absurd (by decide) bunk
    all_goals
      simp [State.cause, State.outOfMapCause, State.zoneViolationCause, State.nearCapacityCause, tip, capacity, guard,
        EnvelopeGuard.reset, CapacityMonitor.reset] at cause

/-- Every event keeps the invariant. -/
theorem State.LatchedOk.effect {s u : State} {i : Instr} (h : s.LatchedOk) (reading : s.ReadingOk)
    (effect : Effect s i u) : u.LatchedOk := by
  have carried : ∀ (f : Frame) (w : Bool), (judgePayload w f.payload (s.windowStep f.payload)).state.LatchedOk := by
    intro f w
    have stepped : (s.windowStep f.payload).LatchedOk :=
      h.of_latching (.of_eq (by simp) (by simp) (by simp) (by simp) (by simp) (by simp) (by simp) (by simp)) (by simp)
    exact stepped.judged (judgePayload_judged w f.payload s)
  cases effect with
  | idle => exact h
  | latched _ k => exact h.of_latching (.latch s k) (by simp)
  | craneward _ f => exact h.of_latching (Latching.forward s f).1 (by simp)
  | cabward _ f => exact h.of_latching (Latching.forward s f).2 (by simp)
  | taken _ f w =>
    rw [takeCommand_eq]
    exact (carried f w).of_latching (.placeReply _ _) (by simp)
  | broadcast _ f w => exact (carried f w).of_latching (Latching.forward _ f).1 (by simp)
  | synced _ f sequence => exact h.of_latching ((Latching.takeSync s sequence).trans (Latching.forward _ f).1) (by simp)
  | demanded _ f => exact h.of_latching (.guardDemand s f) (by simp)
  | sampled _ f => exact h.of_latching ((Latching.snoop s f).trans (Latching.forward _ f).2) (by simp)
  | cabDeparts =>
    unfold State.cabDeparts
    split
    · exact h
    · split
      · exact State.latchedOk_of_reading rfl
      · refine h.of_latching (.of_eq ?_ ?_ ?_ ?_ ?_ ?_ ?_ ?_) ?_ <;> simp
  | craneDeparts => exact h.of_latching (.of_eq rfl rfl rfl rfl rfl rfl rfl rfl) rfl
  | replyJoins => refine h.of_latching (.of_eq ?_ ?_ ?_ ?_ ?_ ?_ ?_ ?_) ?_ <;> simp
  | lineReset => exact State.latchedOk_of_reading rfl
  | powerOn => exact State.latchedOk_of_reading rfl
  | imageReadEnd read => exact reading.endImageRead_latched read
  | storeEnd left =>
    exact h.of_latching (.endStore s left) (by simp [State.endStore_eq])
  | reloadEnd =>
    refine h.of_latching (.endReload s) ?_
    unfold State.endReload
    dsimp only
    split <;> simp [State.imageFailed]
  | watchExpiry => exact h.of_latching (.watchExpiry s) (by simp)
  | keyLost => exact h.of_latching (.keyLost s) (by simp)
  | attempted => exact h.of_latching (.attemptSwap s) (by simp)
  | liftTicked => exact h.of_latching (.lift s _) rfl
  | workTicked => exact h.of_latching (.of_eq rfl rfl rfl rfl rfl rfl rfl rfl) rfl
  | contentLost => exact h.of_latching (.of_eq rfl rfl rfl rfl rfl rfl rfl rfl) rfl

/-- Settles O58, by the effects of an event: each judges the causes it can bring about. -/
theorem presentCausesStayLatched : Obligations.PresentCausesStayLatched := by
  intro s t reading latched ran
  exact step_keeps (H := fun s => s.ReadingOk ∧ s.LatchedOk) (P := State.LatchedOk) (fun _ h => h.2) (fun _ _ h => h)
    (fun _ _ h => h) (fun _ _ _ h effect => h.2.effect h.1 effect) (fun _ h => h) ⟨reading, latched⟩ ran

end Sys2Proof.Machine

/-! PROOFS. The active bank changes only by a swap, at rest (spec/08, R62, R144, R145) -/

namespace Sys2Proof.Machine

/-! ### Operations that attempt a pending commit -/

/-- What an operation from `s` to `t` that attempts a pending commit does to the banks: nothing, or a swap. -/
inductive SwapsOrKeeps (s t : State) : Prop where
  /-- Banks and selection stay. -/
  | keeps (banks : t.banks = s.banks) (selected : t.tally.selected = s.tally.selected)
  /-- A pending commit has swapped at rest (R62, R144, R145). -/
  | swaps (pending : s.banks.commit = .pending) (banks : t.banks = ⟨s.banks.staging, s.banks.staging, true, .none⟩)
      (selected : t.tally.selected = selectionAfterSwap s.banks.staging s.tally.selected)
      (done : t.isLatched .swapDone = true) (quiet : t.guard.quiet = true) (store : t.store.state ≠ .storing)
      (rest : s.lift.state = .empty ∨ t.lift.state = .empty)

/-- An operation that keeps the banks and the selection. -/
theorem SwapsOrKeeps.of_eq {s t : State} (banks : t.banks = s.banks) (tally : t.tally.selected = s.tally.selected) :
    SwapsOrKeeps s t :=
  .keeps banks tally

/-- An attempt after operations that keep the banks and the selection: the lift is over when it swaps. -/
theorem SwapsOrKeeps.attempt {s u : State} (banks : u.banks = s.banks) (selected : u.tally.selected = s.tally.selected) :
    SwapsOrKeeps s u.attemptSwap := by
  obtain same | ⟨pending, allowed, swapped⟩ := u.attemptSwap_cases
  · rw [same]
    exact .keeps banks selected
  · obtain ⟨empty, quiet, store, -⟩ := u.swapAllowed_iff.mp allowed
    rw [swapped]
    exact .swaps (by rwa [← banks]) (by simp [banks]) (by simp [banks, selected]) (u.swap_isLatched _ (.inr rfl))
      (by simpa using quiet) (by simpa using store) (.inr (by simpa using empty))

/-- An operation that attempts, between operations that keep what a swap shows. -/
theorem SwapsOrKeeps.between {s u v t : State} (h : SwapsOrKeeps u v) (banks : u.banks = s.banks)
    (selected : u.tally.selected = s.tally.selected) (lift : u.lift.state = s.lift.state) (banks' : t.banks = v.banks)
    (selected' : t.tally.selected = v.tally.selected) (done : v.isLatched .swapDone = true → t.isLatched .swapDone = true)
    (quiet : t.guard.quiet = v.guard.quiet) (store : t.store.state = v.store.state)
    (lift' : t.lift.state = v.lift.state) : SwapsOrKeeps s t := by
  cases h with
  | keeps b e => exact .keeps (by rw [banks', b, banks]) (by rw [selected', e, selected])
  | swaps p b e d q st r =>
    exact .swaps (by rwa [← banks]) (by rw [banks', b, banks]) (by rw [selected', e, banks, selected]) (done d)
      (by rwa [quiet]) (by rwa [store]) (by rwa [lift', ← lift])

/-! ### The Lift Unit (R79) -/

/-- Booking leaves the selection (R89). -/
@[simp] theorem State.bookRecord_selected (s : State) (r : LiftRecord) :
    (s.bookRecord r).tally.selected = s.tally.selected := by
  have booked : ∀ (u : TallyUnit) (r : LiftRecord), (u.book r).selected = u.selected := by
    intro u r
    unfold TallyUnit.book
    cases r.kind <;> rfl
  have queued : ∀ (u : State) (r : LiftRecord), (u.queueRecord r).tally.selected = u.tally.selected := by
    intro u r
    unfold State.queueRecord
    split <;> rfl
  unfold State.bookRecord
  dsimp only
  rw [queued]
  split <;> simp [booked]

/-- The end of a lift with its record leaves the selection. -/
@[simp] theorem State.endLiftRecorded_selected (s : State) (kind : LiftKind) (release : Option Cell) :
    (s.endLiftRecorded kind release).tally.selected = s.tally.selected := by
  unfold State.endLiftRecorded
  split <;> simp

/-- Telling the Lift Unit the guard state leaves the selection. -/
@[simp] theorem State.liftGuardChange_selected (s : State) (g : GuardState) :
    (s.liftGuardChange g).tally.selected = s.tally.selected := by
  have abandoned : s.abandonLift.tally.selected = s.tally.selected := by
    unfold State.abandonLift
    split <;> simp
  cases g <;> simp [State.liftGuardChange, abandoned]

/-- The lift state machine attempts a pending commit at a release alone (R76, R79, R144). -/
theorem SwapsOrKeeps.liftStep (s : State) (e : GrappleEvent) (t : TipPosition) : SwapsOrKeeps s (s.liftStep e t) := by
  unfold State.liftStep
  split
  case h_4 => exact .attempt (by simp) (by simp)
  case h_7 | h_10 => exact .attempt (by simp) (by simp)
  all_goals exact .of_eq (by simp) (by simp)

/-- The grapple's step leaves the lift state. -/
@[simp] theorem State.grappleStep_liftState (s : State) (t : TipPosition) :
    (s.grappleStep t).lift.state = s.lift.state := by
  unfold State.grappleStep
  dsimp only
  split
  · unfold State.failSearch
    split <;> rfl
  · rfl

/-- The tare search leaves the lift state. -/
@[simp] theorem State.tareStep_liftState (s : State) (t : TipPosition) : (s.tareStep t).lift.state = s.lift.state := by
  have failed : s.failSearch.lift.state = s.lift.state := by
    unfold State.failSearch
    split <;> rfl
  unfold State.tareStep
  dsimp only
  split
  · rfl
  · split_ifs <;> first | exact failed | rfl

/-- A tip position at the Lift Unit (R65). -/
theorem SwapsOrKeeps.liftTake (s : State) (t : TipPosition) : SwapsOrKeeps s (s.liftTake t) := by
  unfold State.liftTake
  dsimp only
  split
  · exact (SwapsOrKeeps.liftStep (s.grappleStep t) _ t).between (by simp) (by simp) (by simp) (by simp) (by simp)
      ((Latching.tareStep _ t).latches _) (by simp) (by simp) (by simp)
  · exact .of_eq (by simp) (by simp)

/-! ### The Envelope Guard (R37) -/

/-- The entry actions end with the attempt (R37, R144). -/
theorem SwapsOrKeeps.enterGuard (s : State) (g : GuardState) (byExpiry : Bool) :
    SwapsOrKeeps s (s.enterGuard g byExpiry) := by
  by_cases same : s.guard.state = g
  · rw [State.enterGuard_same same]
    exact .of_eq rfl rfl
  · rw [State.enterGuard_changed same]
    exact .attempt (by simp) (by simp)

/-- A tip position at the guard (R40). -/
theorem SwapsOrKeeps.guardTake (s : State) : SwapsOrKeeps s s.guardTake := by
  rw [State.guardTake_eq]
  split
  · exact (SwapsOrKeeps.enterGuard s.tipSeen .enforce false).between rfl rfl rfl rfl rfl id rfl rfl rfl
  · exact .of_eq rfl rfl

/-- A tip position at the guard leaves the lift state: entry into ENFORCE asks nothing of the Lift Unit (R37, R40). -/
@[simp] theorem State.guardTake_liftState (s : State) : s.guardTake.lift.state = s.lift.state := by
  have attempted : ∀ u : State, u.attemptSwap.lift.state = u.lift.state := by
    intro u
    obtain same | ⟨-, -, swapped⟩ := u.attemptSwap_cases
    · rw [same]
    · rw [swapped, State.swap_lift]
  rw [State.guardTake_eq]
  split
  · by_cases same : s.tipSeen.guard.state = .enforce
    · rw [State.enterGuard_same same]
      rfl
    · rw [State.enterGuard_changed same, attempted]
      rfl
  · rfl

/-- WATCH_EXPIRY (R42). -/
theorem SwapsOrKeeps.watchExpiry (s : State) : SwapsOrKeeps s s.watchExpiry := by
  unfold State.watchExpiry
  split
  · exact (SwapsOrKeeps.enterGuard s.watchExpires .hold true).between rfl rfl rfl rfl rfl id rfl rfl rfl
  all_goals exact .of_eq rfl rfl

/-- SKEY_DEASSERT (R47). -/
theorem SwapsOrKeeps.keyLost (s : State) : SwapsOrKeeps s s.keyLost := by
  have entered : ∀ u : State, u.banks = s.banks → u.tally = s.tally → u.lift = s.lift
      → SwapsOrKeeps s ((u.enterGuard .blocked false).latch .serviceKeyLost) := fun u banks tally lift =>
    (SwapsOrKeeps.enterGuard u .blocked false).between banks (by rw [tally]) (by rw [lift]) (by simp) (by simp)
      ((Latching.latch _ _).latches _) (by simp) (by simp) (by simp)
  unfold State.keyLost
  dsimp only
  split
  · exact entered _ rfl rfl rfl
  · exact .of_eq rfl rfl

/-! ### Frames -/

/-- A complete set: the guard may swap on entry into ENFORCE, or the Lift Unit at a release (R3). -/
theorem SwapsOrKeeps.deliver (s : State) (x : SampleSet) : SwapsOrKeeps s (s.deliver x) := by
  rw [State.deliver_eq]
  generalize geometryRecord s.banks.active s.lift.tare x = record
  generalize withCapacity s.banks.active record = tip
  have taken : (s.takeRecord record).banks = s.banks ∧ (s.takeRecord record).tally = s.tally
      ∧ (s.takeRecord record).lift = s.lift := by simp
  generalize s.takeRecord record = u at taken
  obtain ⟨banks, tally, lift⟩ := taken
  have guard := SwapsOrKeeps.guardTake u
  have lifted := SwapsOrKeeps.liftTake u.guardTake tip
  have rest : u.guardTake.lift.state = u.lift.state := by simp
  have latched := (Latching.liftTake u.guardTake tip).latches
  have still : (u.guardTake.liftTake tip).guard = u.guardTake.guard
      ∧ (u.guardTake.liftTake tip).store = u.guardTake.store := by simp
  generalize u.guardTake = v at guard lifted rest latched still
  obtain ⟨guardStill, storeStill⟩ := still
  cases guard with
  | keeps b e =>
    exact lifted.between (by rw [b, banks]) (by rw [e, tally]) (by rw [rest, lift]) rfl rfl id rfl rfl rfl
  | swaps pending b e done quiet store empty =>
    cases lifted with
    | keeps b' e' =>
      refine .swaps (by rwa [← banks]) (by rw [b', b, banks]) (by rw [e', e, banks, tally]) (latched _ done)
        (by rw [guardStill, quiet]) (by rwa [storeStill]) (.inl ?_)
      · rw [← lift]
        exact empty.elim id fun h => by rwa [rest] at h
    | swaps pending' => simp [b] at pending'

/-- A SAMPLE frame (R126). -/
theorem SwapsOrKeeps.snoop (s : State) (f : Frame) : SwapsOrKeeps s (s.snoop f) := by
  have delivered : ∀ (u : State) (x : SampleSet), u.banks = s.banks → u.tally = s.tally → u.lift = s.lift
      → SwapsOrKeeps s (u.deliver x) := fun u x banks tally lift =>
    (SwapsOrKeeps.deliver u x).between banks (by rw [tally]) (by rw [lift]) rfl rfl id rfl rfl rfl
  unfold State.snoop
  split
  · dsimp only
    split
    · split
      · exact delivered _ _ rfl rfl rfl
      · exact .of_eq rfl rfl
    · exact .of_eq rfl rfl
  · exact .of_eq rfl rfl

/-- A DEMAND frame attempts a pending commit where it leaves the quiet flag true (R60, R144). -/
theorem SwapsOrKeeps.guardDemand (s : State) (f : Frame) : SwapsOrKeeps s (s.guardDemand f) := by
  obtain same | ⟨-, out, -, dropped | ⟨-, waits | ⟨-, attempted⟩⟩⟩ := s.guardDemand_cases f
  · rw [same]
    exact .of_eq rfl rfl
  · rw [dropped]
    exact .of_eq (by simp) (by simp)
  · rw [waits]
    exact .of_eq (by simp) (by simp)
  · rw [attempted]
    exact .attempt (by simp) (by simp)

end Sys2Proof.Machine

/-! PROOFS. Every change of the active bank is a swap at rest (spec/08, R62, R144, R145) -/

namespace Sys2Proof.Machine

/-- What an event that has swapped shows: the banks, SWAP_DONE, and the rest at which it was done (R62, R144, R145). -/
def SwappedAtRest (s t : State) : Prop :=
  t.banks = ⟨s.banks.staging, s.banks.staging, true, .none⟩ ∧ t.isLatched .swapDone = true ∧ t.guard.quiet = true
    ∧ t.store.state ≠ .storing ∧ (s.lift.state = .empty ∨ t.lift.state = .empty)

/-- The active bank stays, or the event has swapped at rest. -/
def ActiveKeptOrSwapped (s t : State) : Prop := t.banks.active = s.banks.active ∨ SwappedAtRest s t

/-- An operation that attempts a pending commit. -/
theorem SwapsOrKeeps.active {s t : State} (h : SwapsOrKeeps s t) : ActiveKeptOrSwapped s t := by
  cases h with
  | keeps banks => exact .inl (by rw [banks])
  | swaps _ banks _ done quiet store rest => exact .inr ⟨banks, done, quiet, store, rest⟩

/-- An operation between operations that keep what a swap shows. -/
theorem ActiveKeptOrSwapped.between {s u v t : State} (h : ActiveKeptOrSwapped u v) (banks : u.banks = s.banks)
    (lift : u.lift = s.lift) (banks' : t.banks = v.banks) (latching : Latching v t) (guard : t.guard = v.guard)
    (store : t.store = v.store) (lift' : t.lift = v.lift) : ActiveKeptOrSwapped s t := by
  obtain kept | ⟨swapped, done, quiet, idle, rest⟩ := h
  · exact .inl (by rw [banks', kept, banks])
  · exact .inr ⟨by rw [banks', swapped, banks], latching.latches _ done, by rwa [guard], by rwa [store],
      by rwa [lift', ← lift]⟩

/-- A command changes the active bank by a swap: COMMIT at rest, or the attempt at the end of a guard command (R143,
R144). -/
theorem Judged.active {s t : State} (judged : Judged s t) : ActiveKeptOrSwapped s t := by
  cases judged with
  | entered g => exact (SwapsOrKeeps.enterGuard s g false).active
  | swapped _ empty quiet store =>
    exact .inr ⟨by simp, s.swap_isLatched _ (.inr rfl), by simpa using quiet, by simpa using store, .inl empty⟩
  | forced | emptied => exact .inl (by simp)
  | same | assigned | cleared | opened | written | pended | cancelled | stored | reloaded | selected | sought | fetched
    | pendedReset => exact .inl rfl

/-- Every event but the end of an image read. -/
theorem Effect.active {s u : State} {i : Instr} (effect : Effect s i u) (other : i ≠ .imageReadEnd) :
    ActiveKeptOrSwapped s u := by
  have carried : ∀ (f : Frame) (w : Bool),
      ActiveKeptOrSwapped (s.windowStep f.payload) (judgePayload w f.payload (s.windowStep f.payload)).state :=
    fun f w => (judgePayload_judged w f.payload s).active
  cases effect with
  | taken _ f w =>
    rw [takeCommand_eq]
    exact (carried f w).between (by simp) (by simp) (by simp) (.placeReply _ _) (by simp) (by simp) (by simp)
  | broadcast _ f w =>
    exact (carried f w).between (by simp) (by simp) (by simp) (Latching.forward _ f).1 (by simp) (by simp) (by simp)
  | demanded _ f => exact (SwapsOrKeeps.guardDemand s f).active
  | sampled _ f =>
    exact (SwapsOrKeeps.snoop s f).active.between rfl rfl (by simp) (Latching.forward _ f).2 (by simp) (by simp) (by simp)
  | storeEnd left =>
    rw [State.endStore_eq]
    refine (SwapsOrKeeps.active ?_)
    exact .attempt (by simp) (by simp)
  | watchExpiry => exact (SwapsOrKeeps.watchExpiry s).active
  | keyLost => exact (SwapsOrKeeps.keyLost s).active
  | attempted => exact (SwapsOrKeeps.attempt rfl rfl).active
  | cabDeparts =>
    refine .inl ?_
    unfold State.cabDeparts
    split
    · rfl
    · split
      · rfl
      · simp
  | reloadEnd =>
    refine .inl ?_
    unfold State.endReload
    dsimp only
    split <;> simp
  | imageReadEnd => exact absurd rfl other
  | craneward | cabward | synced | replyJoins => exact .inl (by simp)
  | idle | latched | craneDeparts | lineReset | powerOn | liftTicked | workTicked | contentLost => exact .inl rfl

/-- Settles O60, by the effects of an event: sampling the pins before it and driving ATTN after it touch nothing that the
swap shows. -/
theorem activeBankChangesAtRest : Obligations.ActiveBankChangesAtRest := by
  intro s t i other ran changed
  obtain ⟨levels, u, effect, ended⟩ := exec_effect i s
  rw [ended] at ran
  cases ran
  have event : ActiveKeptOrSwapped s u := (effect.active other).between rfl rfl rfl (.refl u) rfl rfl rfl
  exact event.resolve_left changed

end Sys2Proof.Machine

/-! PROOFS. A pending commit keeps staging locked (spec/08, R134, R147, R149) -/

namespace Sys2Proof.Machine

/-! ### Staging while a commit stays pending (R147) -/

/-- The invariant looks at the commit state, the window and the store state. -/
theorem State.CommitOk.of_eq {s t : State} (h : s.CommitOk) (commit : t.banks.commit = s.banks.commit)
    (window : t.unit.window = s.unit.window) (store : t.store.state = s.store.state) : t.CommitOk := by
  unfold State.CommitOk at h ⊢
  rwa [commit, window, store]

/-- Without a commit pending and without a reload running the invariant asks nothing. -/
theorem State.commitOk_of_idle {s : State} (commit : s.banks.commit = .none) (store : s.store.state ≠ .reloading) :
    s.CommitOk :=
  ⟨fun pending => (nomatch commit.symm.trans pending), fun reloading => absurd reloading store⟩

/-- An event from `s` to `t` keeps the invariant, and staging under a commit that stays pending. -/
def StagingLocked (s t : State) : Prop :=
  t.CommitOk ∧ (s.banks.commit = .pending → t.banks.commit = .pending → t.banks.staging = s.banks.staging)

/-- An operation that keeps the commit state, staging, the window and the store state. -/
theorem StagingLocked.of_eq {s t : State} (h : s.CommitOk) (commit : t.banks.commit = s.banks.commit)
    (staging : t.banks.staging = s.banks.staging) (window : t.unit.window = s.unit.window)
    (store : t.store.state = s.store.state) : StagingLocked s t :=
  ⟨h.of_eq commit window store, fun _ _ => staging⟩

/-- An operation that attempts a pending commit ends it or leaves it. -/
theorem SwapsOrKeeps.stagingLocked {s t : State} (done : SwapsOrKeeps s t) (h : s.CommitOk)
    (window : t.unit.window = s.unit.window) (store : t.store.state = s.store.state) : StagingLocked s t := by
  cases done with
  | keeps banks => exact .of_eq h (by rw [banks]) (by rw [banks]) window store
  | swaps pending banks =>
    have none : t.banks.commit = .none := by rw [banks]
    exact ⟨State.commitOk_of_idle none (by rw [store]; exact (h.1 pending).2),
      fun _ still => (nomatch none.symm.trans still)⟩

/-- The commands: TABLE DATA needs an open window, which a pending commit excludes, and COMMIT and RELOAD have closed it
(R139, R143, R154). -/
theorem Judged.stagingLocked {s t : State} (judged : Judged s t) (h : s.CommitOk) : StagingLocked s t := by
  cases judged with
  | entered g => exact (SwapsOrKeeps.enterGuard s g false).stagingLocked h (by simp) (by simp)
  | swapped _ _ _ store =>
    refine ⟨⟨fun pending => by simp at pending, fun reloading => ?_⟩, fun _ still => by simp at still⟩
    simpa using h.2 (by simpa using reloading)
  | opened w store free =>
    exact ⟨⟨fun pending => absurd pending free, fun reloading => absurd reloading store⟩, fun pending => absurd pending free⟩
  | written entries w window store =>
    have free : s.banks.commit ≠ .pending := fun pending => nomatch window.symm.trans (h.1 pending).1
    exact ⟨⟨fun pending => absurd pending free, fun reloading => absurd reloading store⟩, fun pending => absurd pending free⟩
  | pended closed _ store => exact ⟨⟨fun _ => ⟨closed, store⟩, fun _ => closed⟩, fun _ _ => rfl⟩
  | cancelled => exact ⟨⟨nofun, h.2⟩, nofun⟩
  | stored => exact ⟨⟨fun pending => ⟨(h.1 pending).1, nofun⟩, nofun⟩, fun _ _ => rfl⟩
  | reloaded closed _ free => exact ⟨⟨fun pending => absurd pending free, fun _ => closed⟩, fun _ _ => rfl⟩
  | forced | emptied => exact .of_eq h (by simp) (by simp) (by simp) (by simp)
  | same | assigned | cleared | selected | sought | fetched | pendedReset => exact .of_eq h rfl rfl rfl rfl

/-- A reply placed leaves the window and a pending line reset. -/
@[simp] theorem State.placeReply_unit (s : State) (r : OutFrame) :
    (s.placeReply r).unit.window = s.unit.window
      ∧ (s.placeReply r).unit.lineResetPending = s.unit.lineResetPending := by
  unfold State.placeReply
  split <;> exact ⟨rfl, rfl⟩

/-- A waiting reply that joins leaves the window and a pending line reset. -/
@[simp] theorem State.replyJoins_unit (s : State) :
    s.replyJoins.unit.window = s.unit.window ∧ s.replyJoins.unit.lineResetPending = s.unit.lineResetPending := by
  unfold State.replyJoins
  split
  · split <;> exact ⟨rfl, rfl⟩
  · exact ⟨rfl, rfl⟩

/-- Step 1 of taking a command closes the window or leaves it (R140). -/
theorem State.CommitOk.windowStep {s : State} (h : s.CommitOk) (payload : Bytes) : (s.windowStep payload).CommitOk := by
  unfold State.windowStep
  split
  · exact h
  · exact ⟨fun pending => ⟨rfl, (h.1 pending).2⟩, fun _ => rfl⟩

/-- A lock that lasts over operations that keep the commit state and staging before it, and the window and the store state
too after it. -/
theorem StagingLocked.between {s u v t : State} (h : StagingLocked u v) (before : u.banks = s.banks)
    (after : t.banks = v.banks) (window : t.unit.window = v.unit.window) (store : t.store.state = v.store.state) :
    StagingLocked s t := by
  obtain ⟨ok, locked⟩ := h
  rw [before] at locked
  exact ⟨ok.of_eq (by rw [after]) window store, by rwa [after]⟩

/-- Every event keeps staging locked under a commit that stays pending. -/
theorem Effect.stagingLocked {s u : State} {i : Instr} (effect : Effect s i u) (h : s.CommitOk)
    (reading : s.ReadingOk) : StagingLocked s u := by
  have carried : ∀ (f : Frame) (w : Bool),
      StagingLocked (s.windowStep f.payload) (judgePayload w f.payload (s.windowStep f.payload)).state :=
    fun f w => (judgePayload_judged w f.payload s).stagingLocked (h.windowStep f.payload)
  have ended : ∀ t : State, t.banks.commit = .none → t.store.state ≠ .reloading → StagingLocked s t :=
    fun t none store => ⟨State.commitOk_of_idle none store, fun _ still => nomatch none.symm.trans still⟩
  cases effect with
  | taken _ f w =>
    rw [takeCommand_eq]
    exact (carried f w).between (by simp) (by simp) (by simp) (by simp)
  | broadcast _ f w => exact (carried f w).between (by simp) (by simp) (by simp) (by simp)
  | demanded _ f => exact (SwapsOrKeeps.guardDemand s f).stagingLocked h (by simp) (by simp)
  | sampled _ f =>
    exact ((SwapsOrKeeps.snoop s f).stagingLocked h (by simp) (by simp)).between rfl (by simp) (by simp) (by simp)
  | watchExpiry => exact (SwapsOrKeeps.watchExpiry s).stagingLocked h (by simp) (by simp)
  | keyLost => exact (SwapsOrKeeps.keyLost s).stagingLocked h (by simp) (by simp)
  | attempted => exact (SwapsOrKeeps.attempt rfl rfl).stagingLocked h (by simp) (by simp)
  | cabDeparts =>
    unfold State.cabDeparts
    split
    · exact .of_eq h rfl rfl rfl rfl
    · split
      · exact ended _ rfl nofun
      · exact .of_eq h (by simp) (by simp) (by simp) (by simp)
  | lineReset => exact ended _ rfl nofun
  | powerOn => exact ended _ rfl nofun
  | imageReadEnd read =>
    obtain ⟨-, -, -, -, -, -, -, -, none, -⟩ := reading read
    exact ended _ (by simpa [State.endImageRead] using none) (by simp [State.endImageRead])
  | storeEnd left store =>
    have idle : (s.storeRead (changeBytes (writtenImage s.banks.active) left)).CommitOk :=
      ⟨fun pending => ⟨by simpa using (h.1 (by simpa using pending)).1, by simp⟩, fun reloading => by simp at reloading⟩
    rw [State.endStore_eq]
    exact ((SwapsOrKeeps.attempt rfl rfl).stagingLocked idle (by simp) (by simp)).between (by simp) rfl rfl rfl
  | reloadEnd _ store =>
    have free : s.banks.commit ≠ .pending := fun pending => (h.1 pending).2 store
    refine ⟨⟨fun pending => ?_, fun reloading => ?_⟩, fun pending => absurd pending free⟩
    · unfold State.endReload at pending
      dsimp only at pending
      split at pending
      · exact absurd pending free
      · exact absurd (by simpa using pending) free
    · simp [State.endReload] at reloading
  | craneward | cabward | synced | replyJoins => exact .of_eq h (by simp) (by simp) (by simp) (by simp)
  | idle | latched | craneDeparts | liftTicked | workTicked | contentLost => exact .of_eq h rfl rfl rfl rfl

/-- Settles O57, by the effects of an event from states with the same banks. -/
theorem stagingLockedWhilePending : Obligations.StagingLockedWhilePending := by
  intro s t commit reading ran
  exact step_keeps (H := fun u => u.CommitOk ∧ u.ReadingOk ∧ u.banks = s.banks) (P := fun u => StagingLocked s u)
    (fun _ h => ⟨h.1, fun _ _ => by rw [h.2.2]⟩) (fun _ _ h => h) (fun _ _ h => h)
    (fun _ _ _ h effect => (effect.stagingLocked h.1 h.2.1).between h.2.2 rfl rfl rfl) (fun _ h => h)
    ⟨commit, reading, rfl⟩ ran

end Sys2Proof.Machine

/-! PROOFS. The bytes of a field and the bits of a byte (spec/11, R1, R167, R170) -/

namespace Sys2Proof.Machine

/-- A byte read is below 256. -/
theorem u8At_lt (b : Bytes) (k : Nat) : u8At b k < 256 := (b.getD k 0).isLt

/-- A 16-bit field is below 65536. -/
theorem u16At_lt (b : Bytes) (k : Nat) : u16At b k < 65536 := by
  have := u8At_lt b k
  have := u8At_lt b (k + 1)
  unfold u16At
  omega

/-- A byte of an entry is below 256. -/
theorem TableSet.byte_lt (b : TableSet) (t : TableId) (i k : Nat) : b.byte t i k < 256 := by
  unfold TableSet.byte
  split
  · exact u8At_lt _ _
  · decide

/-- A 16-bit field of an entry is below 65536. -/
theorem TableSet.word_lt (b : TableSet) (t : TableId) (i k : Nat) : b.word t i k < 65536 := by
  have := b.byte_lt t i k
  have := b.byte_lt t i (k + 1)
  unfold TableSet.word
  omega

/-- A byte made of a value holds its low eight bits. -/
@[simp] theorem byteOf_toNat (n : Nat) : (byteOf n).toNat = n % 256 := BitVec.toNat_ofNat n 8

/-- The first byte of a list. -/
@[simp] theorem u8At_cons_zero (x : Byte) (b : Bytes) : u8At (x :: b) 0 = x.toNat := rfl

/-- The bytes after the first. -/
@[simp] theorem u8At_cons_succ (x : Byte) (b : Bytes) (k : Nat) : u8At (x :: b) (k + 1) = u8At b k := by
  simp [u8At]

/-- A byte of the first of two lists. -/
theorem u8At_append_left {a b : Bytes} {k : Nat} (inside : k < a.length) : u8At (a ++ b) k = u8At a k := by
  simp [u8At, List.getD_eq_getElem?_getD, List.getElem?_append_left inside]

/-- A byte of the second of two lists. -/
theorem u8At_append_right (a b : Bytes) (k : Nat) : u8At (a ++ b) (a.length + k) = u8At b k := by
  simp [u8At, List.getD_eq_getElem?_getD, List.getElem?_append_right]

/-- A class, a source or another byte of an entry, by the entry's own bytes (R170). -/
theorem TableSet.byte_eq_entry (b : TableSet) {t : TableId} {i k : Nat} (index : i < t.entries) (inside : k < t.entrySize) :
    b.byte t i k = u8At (b.entry t i) k := by
  rw [TableSet.byte, if_pos index]
  simp [u8At, TableSet.entry, List.getD_eq_getElem?_getD, inside, Nat.add_assoc]

/-- A 16-bit field of an entry, by the entry's own bytes (R170). -/
theorem TableSet.word_eq_entry (b : TableSet) {t : TableId} {i k : Nat} (index : i < t.entries)
    (inside : k + 1 < t.entrySize) : b.word t i k = u16At (b.entry t i) k := by
  rw [TableSet.word, b.byte_eq_entry index (Nat.lt_of_succ_lt inside), b.byte_eq_entry index inside]
  rfl

/-- The kind and fields of a Zone Map byte, by its value (R170). -/
theorem zoneEntryOfByte_eq {n : Nat} (byte : n < 256) :
    zoneEntryOfByte n
      = if n / 32 = 0 then some .plain else if n / 32 = 1 then some (.cls (n % 16))
        else if n / 32 = 2 then some (.header (decide (n / 16 % 2 = 1)) (n % 16)) else none := by
  have kind : bitField n 5 3 = n / 32 := Nat.mod_eq_of_lt (show n / 32 < 8 by omega)
  have index : bitField n 0 4 = n % 16 := by simp [bitField]
  have isOpen : (bitField n 4 1 == 1) = decide (n / 16 % 2 = 1) := rfl
  have below : n / 32 < 8 := by omega
  simp only [zoneEntryOfByte, kind, index, isOpen]
  generalize n / 32 = kind at below
  interval_cases kind <;> rfl

/-- The entry rule bits of a class record (R170). -/
theorem TableSet.classRuleBits_eq (b : TableSet) (i : Nat) : b.classRuleBits i = b.byte .zoneClasses i 0 % 4 := by
  simp [TableSet.classRuleBits, bitField]

/-- The bunk flag of a class record (R170). -/
theorem TableSet.classBunk_eq (b : TableSet) (i : Nat) :
    b.classBunk i = decide (b.byte .zoneClasses i 0 / 4 % 2 = 1) := rfl

/-- The enabled bit of an assortment (R170). -/
theorem TableSet.assortmentEnabled_eq (b : TableSet) (i : Nat) :
    b.assortmentEnabled i = decide (b.byte .assortments i 0 % 2 = 1) := by
  simp only [TableSet.assortmentEnabled, bitField, Nat.pow_zero, Nat.div_one]
  rfl

/-- A kind byte names the kind of its place in the list, and none past its end (R170). -/
theorem slotKindOfByte_eq (n : Nat) :
    slotKindOfByte n = [SlotKind.unused, .slew, .boom, .jib, .ext, .rotator, .grapple, .other][n]? := by
  obtain below | above := Nat.lt_or_ge n 8
  · interval_cases n <;> rfl
  · have past : [SlotKind.unused, .slew, .boom, .jib, .ext, .rotator, .grapple, .other][n]? = none :=
      List.getElem?_eq_none above
    rw [past]
    unfold slotKindOfByte
    split <;> first | omega | rfl

end Sys2Proof.Machine

/-! PROOFS. Validation: the first failing entry, the tests of each table, and the ranges that a Table Set that passes keeps
(spec/08, R142) -/

namespace Sys2Proof.Machine

/-! ### The first failing entry (R142) -/

/-- Tables stand in id order. -/
theorem TableId.all_sorted : TableId.all.Pairwise (fun t u => t.number < u.number) := by decide

/-- Every table is one of the eight. -/
theorem TableId.mem_all (t : TableId) : t ∈ TableId.all := by cases t <;> decide

/-- A table without a failing entry. -/
theorem firstFailure_eq_none_iff (b : TableSet) (node : Nat) (t : TableId) :
    firstFailure b node t = none ↔ ∀ j, j < t.entries → entryFails b node t j = false := by
  simp [firstFailure]

/-- The first failing entry of a table. -/
theorem firstFailure_eq_some_iff (b : TableSet) (node : Nat) (t : TableId) (i : Nat) :
    firstFailure b node t = some i ↔
      i < t.entries ∧ entryFails b node t i = true ∧ ∀ j, j < i → entryFails b node t j = false := by
  simp only [firstFailure, List.find?_range_eq_some, List.mem_range, Bool.not_eq_true']
  exact and_left_comm

/-- Validation passes where no entry fails (R142). -/
theorem validate_eq_none_iff (b : TableSet) (node : Nat) :
    validate b node = none ↔ ∀ t i, i < t.entries → entryFails b node t i = false := by
  simp only [validate, List.findSome?_eq_none_iff, Option.map_eq_none_iff, firstFailure_eq_none_iff]
  exact ⟨fun passes t => passes t t.mem_all, fun passes t _ => passes t⟩

/-- Validation names the first failing entry, tables in id order and entries in index order (R142). -/
theorem validate_eq_some_iff (b : TableSet) (node : Nat) (t : TableId) (i : Nat) :
    validate b node = some (t, i) ↔
      i < t.entries ∧ entryFails b node t i = true
        ∧ ∀ t' j, j < t'.entries → (t'.number < t.number ∨ (t' = t ∧ j < i)) → entryFails b node t' j = false := by
  simp only [validate, List.findSome?_eq_some_iff, Option.map_eq_none_iff, Option.map_eq_some_iff, Prod.mk.injEq]
  constructor
  · rintro ⟨before, u, after, split, ⟨j, found, rfl, rfl⟩, clean⟩
    obtain ⟨index, fails, first⟩ := (firstFailure_eq_some_iff b node u j).mp found
    refine ⟨index, fails, fun t' k inside earlier => ?_⟩
    obtain lower | ⟨rfl, below⟩ := earlier
    · have sorted := TableId.all_sorted
      have member := t'.mem_all
      rw [split] at sorted member
      obtain ⟨-, ordered, -⟩ := List.pairwise_append.mp sorted
      obtain earlier | rfl | later : t' ∈ before ∨ t' = u ∨ t' ∈ after := by simpa using member
      · exact (firstFailure_eq_none_iff b node t').mp (clean t' earlier) k inside
      · exact absurd lower (Nat.lt_irrefl _)
      · exact absurd (List.rel_of_pairwise_cons ordered later) (Nat.lt_asymm lower)
    · exact first k below
  · rintro ⟨index, fails, clean⟩
    obtain ⟨before, after, split⟩ := List.append_of_mem t.mem_all
    have sorted := TableId.all_sorted
    rw [split] at sorted
    obtain ⟨-, -, lower⟩ := List.pairwise_append.mp sorted
    refine ⟨before, t, after, split, ⟨i, ?_, rfl, rfl⟩, fun t' earlier => ?_⟩
    · exact (firstFailure_eq_some_iff b node t i).mpr
        ⟨index, fails, fun j below => clean t j (Nat.lt_trans below index) (.inr ⟨rfl, below⟩)⟩
    · exact (firstFailure_eq_none_iff b node t').mpr fun j inside =>
        clean t' j inside (.inl (lower t' earlier t List.mem_cons_self))

/-! ### Which entries fail -/

/-- A value outside a range. -/
@[simp] theorem inRange_eq_false_iff (lo hi n : Nat) : inRange lo hi n = false ↔ n < lo ∨ hi < n := by
  simp only [inRange, Bool.and_eq_false_iff, decide_eq_false_iff_not, Nat.not_le]

/-- A Zone Map entry fails (R12). -/
theorem zoneFails_iff (b : TableSet) (i : Nat) :
    zoneFails b i = true ↔
      let n := b.byte .zoneMap i 0
      (i % 13 = 0 ∧ n / 32 ≠ 2) ∨ (i % 13 ≠ 0 ∧ n / 32 ≠ 0 ∧ n / 32 ≠ 1) ∨ (n / 32 ≠ 0 ∧ 7 < n % 16) := by
  have byte := b.byte_lt .zoneMap i 0
  simp only [zoneFails, zoneEntryOfByte_eq byte]
  generalize b.byte .zoneMap i 0 = n
  by_cases plain : n / 32 = 0
  · by_cases head : i % 13 = 0 <;> simp [plain, head]
  by_cases cls : n / 32 = 1
  · by_cases head : i % 13 = 0 <;> simp [cls, head]
  by_cases header : n / 32 = 2
  · by_cases head : i % 13 = 0 <;> simp [header, head]
  · by_cases head : i % 13 = 0 <;> simp [plain, cls, header, head]

/-- A class record fails (R15). -/
theorem classFails_iff (b : TableSet) (i : Nat) :
    classFails b i = true ↔
      let n := b.byte .zoneClasses i 0
      2 ≤ n % 4 ∨ (n % 4 = 1 ∧ n / 4 % 2 = 1) ∨ 1000 < b.classCap i ∨ b.classDerate i < 1 ∨ 100 < b.classDerate i := by
  simp [classFails, b.classRuleBits_eq, b.classBunk_eq, or_assoc]

/-- A Stability Grid entry fails (R21). -/
theorem stabilityFails_iff (b : TableSet) (i : Nat) :
    stabilityFails b i = true ↔ b.byte .stabilityGrid i 0 < 1 ∨ 100 < b.byte .stabilityGrid i 0 := by
  simp [stabilityFails]

/-- A Capacity Curve point fails (R22). -/
theorem capacityFails_iff (b : TableSet) (i : Nat) :
    capacityFails b i = true ↔
      20000 < b.capacityPoint i ∨ (i = 0 ∧ b.capacityPoint i = 0)
        ∨ (0 < i ∧ b.capacityPoint (i - 1) < b.capacityPoint i) := by
  by_cases first : i = 0
  · subst first
    simp [capacityFails]
  · simp [capacityFails, first, Nat.pos_of_ne_zero first]

/-- A Channel Map entry fails (R121). -/
theorem channelFails_iff (b : TableSet) (i : Nat) :
    channelFails b i = true ↔
      b.channelSource i < 1 ∨ 30 < b.channelSource i ∨ 15 < b.channelNumber i ∨ b.channelGain i = 0
        ∨ ∃ j, j < i ∧ b.channelSource j = b.channelSource i ∧ b.channelNumber j = b.channelNumber i := by
  simp [channelFails, sameChannel, or_assoc, @eq_comm _ (b.channelSource i), @eq_comm _ (b.channelNumber i)]

/-- A look step fails for its kind (R51). -/
theorem lookStepFails_iff (k : SlotKind) (step : Nat) :
    lookStepFails k step = true ↔
      ((k = .slew ∨ k = .boom ∨ k = .jib) ∧ (step < 5 ∨ 300 < step)) ∨ (k = .ext ∧ (step < 10 ∨ 500 < step)) := by
  cases k <;> simp [lookStepFails]

/-- The kind of a slot whose byte names one (R51, R170). -/
theorem TableSet.slotKind_eq (b : TableSet) (i : Nat) :
    b.slotKind i
      = [SlotKind.unused, .slew, .boom, .jib, .ext, .rotator, .grapple, .other].getD (b.byte .valveMap i 0) .unused := by
  rw [TableSet.slotKind, slotKindOfByte_eq, List.getD_eq_getElem?_getD]

/-- A Valve Map slot fails (R51). -/
theorem valveFails_iff (b : TableSet) (i : Nat) :
    valveFails b i = true ↔
      7 < b.byte .valveMap i 0 ∨ (b.slotPolarity i ≠ 1 ∧ b.slotPolarity i ≠ -1)
        ∨ (b.slotKind i ∈ motionKinds ∧ ∃ j, j < i ∧ b.slotKind j = b.slotKind i)
        ∨ ((b.slotKind i = .slew ∨ b.slotKind i = .boom ∨ b.slotKind i = .jib)
            ∧ (b.slotLookStep i < 5 ∨ 300 < b.slotLookStep i))
        ∨ (b.slotKind i = .ext ∧ (b.slotLookStep i < 10 ∨ 500 < b.slotLookStep i))
        ∨ (i = 7 ∧ ∃ k, k ∈ motionKinds ∧ ∀ j, j < 8 → b.slotKind j ≠ k) := by
  cases kind : slotKindOfByte (b.byte .valveMap i 0) with
  | none =>
    rw [slotKindOfByte_eq, List.getElem?_eq_none_iff] at kind
    have above : 7 < b.byte .valveMap i 0 := kind
    simp [valveFails, slotKindOfByte_eq, List.getElem?_eq_none kind, above]
  | some k =>
    have named : b.slotKind i = k := by rw [TableSet.slotKind, kind, Option.getD_some]
    have below : ¬7 < b.byte .valveMap i 0 := by
      rw [slotKindOfByte_eq] at kind
      have := (List.getElem?_eq_some_iff.mp kind).1
      exact Nat.not_lt.mpr (Nat.le_of_lt_succ this)
    simp only [valveFails, kind, named, below, false_or, Bool.or_eq_true, Bool.and_eq_true, lookStepFails_iff, or_assoc,
      b.isMotion_iff]
    simp

/-- An Assortments entry fails (R93). -/
theorem assortmentFails_iff (b : TableSet) (i : Nat) :
    assortmentFails b i = true ↔
      (i = 0 ∧ b.assortmentEnabled i = false)
        ∨ ∃ k, 1 ≤ k ∧ k ≤ 3
            ∧ ¬(48 ≤ b.byte .assortments i k ∧ b.byte .assortments i k ≤ 57)
            ∧ ¬(65 ≤ b.byte .assortments i k ∧ b.byte .assortments i k ≤ 90) := by
  have character : ∀ n, (!codeCharacter n) = true ↔ ¬(48 ≤ n ∧ n ≤ 57) ∧ ¬(65 ≤ n ∧ n ≤ 90) := by
    intro n
    simp [codeCharacter, inRange, imp_iff_not_or]
  have broken : (!([1, 2, 3].all (fun k => codeCharacter (b.byte .assortments i k)))) = true
      ↔ ∃ k, 1 ≤ k ∧ k ≤ 3 ∧ (!codeCharacter (b.byte .assortments i k)) = true := by
    constructor
    · intro h
      obtain ⟨k, listed, fails⟩ := List.all_eq_false.mp ((Bool.not_eq_true' _).mp h)
      exact ⟨k, by simp at listed; omega, by simp at listed; omega, by simpa using fails⟩
    · rintro ⟨k, low, high, fails⟩
      have listed : k ∈ [1, 2, 3] := by simp; omega
      rw [List.all_eq_false.mpr ⟨k, listed, by simpa using fails⟩]
      rfl
  simp only [assortmentFails, Bool.or_eq_true, broken, character, Bool.and_eq_true, beq_iff_eq, Bool.not_eq_true']
  refine or_congr_left ⟨?_, ?_⟩ <;> (rintro ⟨rfl, off⟩; exact ⟨rfl, off⟩)

/-- The ranges of the Settings entries, in index order; an end that another entry decides (R135). -/
def settingRanges (gripOn : Nat) : List (Nat × Nat) :=
  [(1000, 40000), (50, 2500), (20, gripOn - 10), (10, 500), (1, 16), (8, 32), (2, 200), (1, 50), (1, 50),
    (10, 200), (500, 1000), (40, 500), (0, 500), (0, 300), (1000, 6000), (500, 5000), (0, 2000), (0, 33554431),
    (500, 1000), (1, 30)]

/-- A Settings entry fails (R135). -/
theorem settingFails_iff (b : TableSet) (node : Nat) {i : Nat} (index : i < 20) :
    settingFails b node i = true ↔
      let v := b.settingAt i
      let range := (settingRanges (b.setting .gripOn)).getD i (0, 0)
      v < range.1 ∨ range.2 < v ∨ (i = 5 ∧ v ≠ 8 ∧ v ≠ 16 ∧ v ≠ 32) ∨ (i = 19 ∧ v = node) := by
  interval_cases i <;> simp [settingFails, settingRanges] <;> omega

/-! ### What a Table Set that passes keeps -/

/-- No entry of a Table Set that passes fails. -/
theorem entryFails_of_valid {b : TableSet} {node : Nat} (passes : validate b node = none) {t : TableId} {i : Nat}
    (index : i < t.entries) : entryFails b node t i = false :=
  (validate_eq_none_iff b node).mp passes t i index

/-- The entries of the Zone Map that passes (R12). -/
theorem zone_of_valid {b : TableSet} {node : Nat} (passes : validate b node = none) {ring : Nat} (row : ring < 5) :
    (∃ isOpen start, b.zone ring 0 = some (.header isOpen start) ∧ start ≤ 7)
      ∧ ∀ e, 1 ≤ e → e ≤ 12 → b.zone ring e = some .plain ∨ ∃ k, b.zone ring e = some (.cls k) ∧ k ≤ 7 := by
  have entry : ∀ e, e < 13 → zoneFails b (ring * 13 + e) = false :=
    fun e column => entryFails_of_valid (t := .zoneMap) passes (show ring * 13 + e < 65 by omega)
  refine ⟨?_, fun e low high => ?_⟩
  · have holds := entry 0 (by decide)
    rw [← Bool.not_eq_true, zoneFails_iff] at holds
    rw [TableSet.zone, zoneEntryOfByte_eq (b.byte_lt _ _ _)]
    generalize b.byte .zoneMap (ring * 13 + 0) 0 = n at holds
    have header : n / 32 = 2 := by omega
    exact ⟨decide (n / 16 % 2 = 1), n % 16, by simp [header], by omega⟩
  · have holds := entry e (by omega)
    rw [← Bool.not_eq_true, zoneFails_iff] at holds
    rw [TableSet.zone, zoneEntryOfByte_eq (b.byte_lt _ _ _)]
    generalize b.byte .zoneMap (ring * 13 + e) 0 = n at holds
    obtain plain | cls : n / 32 = 0 ∨ n / 32 = 1 := by omega
    · exact .inl (by simp [plain])
    · exact .inr ⟨n % 16, by simp [cls], by omega⟩

/-- The class records of a Table Set that passes (R15). -/
theorem class_of_valid {b : TableSet} {node : Nat} (passes : validate b node = none) {i : Nat} (index : i < 8) :
    1 ≤ b.classDerate i ∧ b.classDerate i ≤ 100 ∧ b.classCap i ≤ 1000
      ∧ ¬(b.classRule i = .noEntry ∧ b.classBunk i = true) := by
  have holds : classFails b i = false := entryFails_of_valid (t := .zoneClasses) passes index
  rw [← Bool.not_eq_true, classFails_iff] at holds
  refine ⟨by omega, by omega, by omega, fun ⟨rule, bunk⟩ => ?_⟩
  have closed : b.classRuleBits i ≠ 0 := by
    intro zero
    simp [TableSet.classRule, zero] at rule
  rw [b.classRuleBits_eq] at closed
  rw [b.classBunk_eq, decide_eq_true_iff] at bunk
  omega

/-- The Channel Map of a Table Set that passes (R121). -/
theorem channel_of_valid {b : TableSet} {node : Nat} (passes : validate b node = none) {i : Nat} (index : i < 8) :
    (1 ≤ b.channelSource i ∧ b.channelSource i ≤ 30 ∧ b.channelNumber i ≤ 15 ∧ b.channelGain i ≠ 0)
      ∧ ∀ j, j < i → ¬(b.channelSource j = b.channelSource i ∧ b.channelNumber j = b.channelNumber i) := by
  have holds : channelFails b i = false := entryFails_of_valid (t := .channelMap) passes index
  rw [← Bool.not_eq_true, channelFails_iff] at holds
  simp only [not_or, not_exists] at holds
  obtain ⟨low, high, number, gain, unique⟩ := holds
  exact ⟨⟨by omega, by omega, by omega, gain⟩, fun j below same => unique j ⟨below, same⟩⟩

/-- The slots of a Table Set that passes (R51). -/
theorem slot_of_valid {b : TableSet} {node : Nat} (passes : validate b node = none) {i : Nat} (index : i < 8) :
    ((b.slotPolarity i = 1 ∨ b.slotPolarity i = -1)
      ∧ (b.slotKind i = .slew ∨ b.slotKind i = .boom ∨ b.slotKind i = .jib →
          5 ≤ b.slotLookStep i ∧ b.slotLookStep i ≤ 300)
      ∧ (b.slotKind i = .ext → 10 ≤ b.slotLookStep i ∧ b.slotLookStep i ≤ 500))
    ∧ (b.slotKind i ∈ motionKinds → ∀ j, j < i → b.slotKind j ≠ b.slotKind i)
    ∧ (i = 7 → ∀ k, k ∈ motionKinds → ∃ j, j < 8 ∧ b.slotKind j = k) := by
  have holds : valveFails b i = false := entryFails_of_valid (t := .valveMap) passes index
  rw [← Bool.not_eq_true, valveFails_iff] at holds
  simp only [not_or, not_and, not_exists, Nat.not_lt] at holds
  obtain ⟨-, polarity, unique, turning, sliding, present⟩ := holds
  refine ⟨⟨?_, turning, sliding⟩, unique, fun last k kind => ?_⟩
  · by_cases plus : b.slotPolarity i = 1
    · exact .inl plus
    · exact .inr (not_not.mp (polarity plus))
  · have found := present last k kind
    simpa using found

/-- Every motion kind stands in one slot of a Table Set that passes (R51). -/
theorem motionKind_of_valid {b : TableSet} {node : Nat} (passes : validate b node = none) {k : SlotKind}
    (kind : k ∈ motionKinds) : ∃ i, i < 8 ∧ b.slotKind i = k ∧ ∀ j, j < 8 → b.slotKind j = k → j = i := by
  obtain ⟨i, index, rfl⟩ := (slot_of_valid passes (show 7 < 8 by decide)).2.2 rfl k kind
  refine ⟨i, index, rfl, fun j index' same => ?_⟩
  obtain below | rfl | above := Nat.lt_trichotomy j i
  · exact absurd same ((slot_of_valid passes index).2.1 kind j below)
  · rfl
  · exact absurd same.symm ((slot_of_valid passes index').2.1 (by rwa [same]) i above)

/-- The Assortments of a Table Set that passes (R93). -/
theorem assortment_of_valid {b : TableSet} {node : Nat} (passes : validate b node = none) :
    b.assortmentEnabled 0 = true
      ∧ ∀ i x, i < 12 → x ∈ b.assortmentCode i → (48 ≤ x.toNat ∧ x.toNat ≤ 57) ∨ (65 ≤ x.toNat ∧ x.toNat ≤ 90) := by
  have holds : ∀ i, i < 12 → assortmentFails b i = false :=
    fun i index => entryFails_of_valid (t := .assortments) passes index
  simp only [← Bool.not_eq_true, assortmentFails_iff, not_or, not_and, not_exists] at holds
  refine ⟨by simpa using (holds 0 (by decide)).1 rfl, fun i x index character => ?_⟩
  obtain ⟨k, listed, rfl⟩ := List.mem_map.mp character
  have byte := b.byte_lt .assortments i k
  have inside := (holds i index).2 k (by simp at listed; omega) (by simp at listed; omega)
  rw [byteOf_toNat, Nat.mod_eq_of_lt byte]
  omega

/-- A Settings entry of a Table Set that passes lies in its range (R135). -/
theorem setting_of_valid {b : TableSet} {node : Nat} (passes : validate b node = none) {i : Nat} (index : i < 20) :
    let v := b.settingAt i
    let range := (settingRanges (b.setting .gripOn)).getD i (0, 0)
    ¬(v < range.1 ∨ range.2 < v ∨ (i = 5 ∧ v ≠ 8 ∧ v ≠ 16 ∧ v ≠ 32) ∨ (i = 19 ∧ v = node)) := by
  have holds : settingFails b node i = false := entryFails_of_valid (t := .settings) passes index
  rwa [← Bool.not_eq_true, settingFails_iff b node index] at holds

/-- A setting of a Table Set that passes lies between the two ends of its range (R135). -/
theorem setting_range {b : TableSet} {node : Nat} (passes : validate b node = none) {x : Setting} {lo hi : Nat}
    (range : (settingRanges (b.setting .gripOn)).getD x.index (0, 0) = (lo, hi)) :
    lo ≤ b.setting x ∧ b.setting x ≤ hi := by
  have index : x.index < 20 := by cases x <;> decide
  have holds := setting_of_valid passes index
  rw [range] at holds
  have value : b.settingAt x.index = b.setting x := rfl
  rw [value] at holds
  dsimp only at holds
  omega

/-- The settings of a Table Set that passes, by name (R135). -/
structure TableSet.SettingsInRange (b : TableSet) : Prop where
  bunkLimit : 1000 ≤ b.setting .bunkLimit ∧ b.setting .bunkLimit ≤ 40000
  gripOn : 50 ≤ b.setting .gripOn ∧ b.setting .gripOn ≤ 2500
  gripOff : 20 ≤ b.setting .gripOff ∧ b.setting .gripOff + 10 ≤ b.setting .gripOn
  clearThreshold : 10 ≤ b.setting .clearThreshold ∧ b.setting .clearThreshold ≤ 500
  clearFilter : 1 ≤ b.setting .clearFilter ∧ b.setting .clearFilter ≤ 16
  weighWindow : b.setting .weighWindow = 8 ∨ b.setting .weighWindow = 16 ∨ b.setting .weighWindow = 32
  tolerance : 2 ≤ b.setting .tolerance ∧ b.setting .tolerance ≤ 200
  overloadFilter : 1 ≤ b.setting .overloadFilter ∧ b.setting .overloadFilter ≤ 50
  releaseFilter : 1 ≤ b.setting .releaseFilter ∧ b.setting .releaseFilter ≤ 50
  hysteresis : 10 ≤ b.setting .hysteresis ∧ b.setting .hysteresis ≤ 200
  warn : 500 ≤ b.setting .warn ∧ b.setting .warn ≤ 1000
  staleTimeout : 40 ≤ b.setting .staleTimeout ∧ b.setting .staleTimeout ≤ 500
  serviceCap : b.setting .serviceCap ≤ 500
  violationCap : b.setting .violationCap ≤ 300
  l1 : 1000 ≤ b.setting .l1 ∧ b.setting .l1 ≤ 6000
  l2 : 500 ≤ b.setting .l2 ∧ b.setting .l2 ≤ 5000
  defaultTare : b.setting .defaultTare ≤ 2000
  attentionMask : b.setting .attentionMask ≤ 33554431
  bunkNear : 500 ≤ b.setting .bunkNear ∧ b.setting .bunkNear ≤ 1000

/-- Validation keeps every setting in its range (R135, R142). -/
theorem settings_of_valid {b : TableSet} {node : Nat} (passes : validate b node = none) : b.SettingsInRange where
  bunkLimit := setting_range passes rfl
  gripOn := setting_range passes rfl
  gripOff := by
    have := setting_range passes (x := .gripOff) rfl
    have := setting_range passes (x := .gripOn) rfl
    omega
  clearThreshold := setting_range passes rfl
  clearFilter := setting_range passes rfl
  weighWindow := by
    have holds := setting_of_valid passes (i := 5) (by decide)
    have value : b.settingAt 5 = b.setting .weighWindow := rfl
    rw [value] at holds
    dsimp only at holds
    omega
  tolerance := setting_range passes rfl
  overloadFilter := setting_range passes rfl
  releaseFilter := setting_range passes rfl
  hysteresis := setting_range passes rfl
  warn := setting_range passes rfl
  staleTimeout := setting_range passes rfl
  serviceCap := (setting_range passes (x := .serviceCap) rfl).2
  violationCap := (setting_range passes (x := .violationCap) rfl).2
  l1 := setting_range passes rfl
  l2 := setting_range passes rfl
  defaultTare := (setting_range passes (x := .defaultTare) rfl).2
  attentionMask := (setting_range passes (x := .attentionMask) rfl).2
  bunkNear := setting_range passes rfl

/-- The valve block address of a Table Set that passes is an address, and not the node's (R110, R135). -/
theorem valveAddress_of_valid {b : TableSet} {node : Nat} (passes : validate b node = none) :
    1 ≤ b.setting .valveAddress ∧ b.setting .valveAddress ≤ 30 ∧ b.setting .valveAddress ≠ node := by
  have holds := setting_of_valid passes (i := 19) (by decide)
  have range := setting_range passes (x := .valveAddress) rfl
  have value : b.settingAt 19 = b.setting .valveAddress := rfl
  rw [value] at holds
  dsimp only at holds
  omega

/-- Settles O47: the first failing entry, the tests of the tables one by one, and what each of them leaves to a Table Set that
passes. -/
theorem validationStopsAtFirstFailure : Obligations.ValidationStopsAtFirstFailure := by
  refine ⟨validate_eq_some_iff, fun b node i => ⟨zoneFails_iff b i, classFails_iff b i, stabilityFails_iff b i,
    capacityFails_iff b i, channelFails_iff b i, valveFails_iff b i, assortmentFails_iff b i, settingFails_iff b node⟩,
    fun b node passes => ?_⟩
  have stability : ∀ band f, band < 6 → f < 12 → 1 ≤ b.stability band f ∧ b.stability band f ≤ 100 := by
    intro band f row column
    have holds : stabilityFails b (band * 12 + f) = false :=
      entryFails_of_valid (t := .stabilityGrid) passes (show band * 12 + f < 72 by omega)
    rw [← Bool.not_eq_true, stabilityFails_iff] at holds
    unfold TableSet.stability
    omega
  have capacity : ∀ i, i < 16 → capacityFails b i = false :=
    fun i index => entryFails_of_valid (t := .capacityCurve) passes index
  simp only [← Bool.not_eq_true, capacityFails_iff] at capacity
  have settings := settings_of_valid passes
  obtain ⟨enabled, codes⟩ := assortment_of_valid passes
  refine ⟨fun ring row => zone_of_valid passes row, fun i index => class_of_valid passes index, stability, ?_, ?_, ?_,
    fun i index => (channel_of_valid passes index).1, fun i j below index => (channel_of_valid passes index).2 i below,
    fun k kind => motionKind_of_valid passes kind, fun i index => (slot_of_valid passes index).1, enabled, codes,
    settings.bunkLimit.1, settings.bunkLimit.2, settings.gripOn.1, settings.gripOn.2, settings.gripOff.1,
    settings.gripOff.2, settings.clearThreshold.1, settings.clearThreshold.2, settings.clearFilter.1,
    settings.clearFilter.2, settings.weighWindow, settings.tolerance.1, settings.tolerance.2, settings.overloadFilter.1,
    settings.overloadFilter.2, settings.releaseFilter.1, settings.releaseFilter.2, settings.hysteresis.1,
    settings.hysteresis.2, settings.warn.1, settings.warn.2, settings.staleTimeout.1, settings.staleTimeout.2,
    settings.serviceCap, settings.violationCap, settings.l1.1, settings.l1.2, settings.l2.1, settings.l2.2,
    settings.defaultTare, settings.attentionMask, settings.bunkNear.1, settings.bunkNear.2, valveAddress_of_valid passes⟩
  · have := capacity 0 (by decide)
    omega
  · have := capacity 0 (by decide)
    omega
  · intro i index
    have := capacity (i + 1) (by omega)
    simp only [Nat.add_sub_cancel] at this
    omega

end Sys2Proof.Machine

/-! PROOFS. The active bank, staging under a pending commit and a matching image keep validated content (spec/08, spec/09,
R134, R149 to R151) -/

namespace Sys2Proof.Machine

/-! ### Validated content -/

/-- What passes validation for one node address passes it but for the node address (R142). -/
theorem TableSet.valid_of_validate {b : TableSet} {node : Nat} (passes : validate b node = none) : b.Valid := by
  have address := valveAddress_of_valid passes
  refine (validate_eq_none_iff b 0).mpr fun t i index => ?_
  have holds := entryFails_of_valid passes index
  cases t
  case settings =>
    have holds : settingFails b node i = false := holds
    change settingFails b 0 i = false
    rw [← Bool.not_eq_true, settingFails_iff b node index] at holds
    rw [← Bool.not_eq_true, settingFails_iff b 0 index]
    have value : i = 19 → b.settingAt i = b.setting .valveAddress := by
      rintro rfl
      rfl
    dsimp only at holds ⊢
    omega
  all_goals exact holds

/-- The invariant looks at the banks, the image and the store state. -/
theorem State.ValidOk.of_eq {s t : State} (h : s.ValidOk) (banks : t.banks = s.banks)
    (image : t.store.image = s.store.image) (store : t.store.state = s.store.state) : t.ValidOk := by
  unfold State.ValidOk at h ⊢
  rwa [banks, image, store]

/-- An operation that attempts a pending commit, whose staging is validated. -/
theorem SwapsOrKeeps.validOk {s t : State} (done : SwapsOrKeeps s t) (h : s.ValidOk) (store : t.store = s.store) :
    t.ValidOk := by
  obtain ⟨storing, active, staging, image⟩ := h
  cases done with
  | keeps banks => exact State.ValidOk.of_eq ⟨storing, active, staging, image⟩ banks (by rw [store]) (by rw [store])
  | swaps pending banks =>
    unfold State.ValidOk
    rw [banks, store]
    exact ⟨fun _ => rfl, fun _ => staging pending, nofun, image⟩

/-- The commands: COMMIT validates staging, an open window excludes a pending commit, and STORE spoils the image's check
(R139, R143, R151). -/
theorem State.ValidOk.judged {s t : State} (h : s.ValidOk) (judged : Judged s t) (commit : s.CommitOk)
    (image : s.store.image.length = tableSetSize + 2) : t.ValidOk := by
  obtain ⟨storing, active, staging, matching⟩ := h
  cases judged with
  | entered g => exact (SwapsOrKeeps.enterGuard s g false).validOk ⟨storing, active, staging, matching⟩ (by simp)
  | swapped passes =>
    refine ⟨fun _ => by simp, fun _ => ?_, fun pending => by simp at pending, by simpa using matching⟩
    simpa using TableSet.valid_of_validate passes
  | written entries w window =>
    exact ⟨storing, active, fun pending => (nomatch window.symm.trans (commit.1 pending).1), matching⟩
  | pended _ passes => exact ⟨storing, active, fun _ => TableSet.valid_of_validate passes, matching⟩
  | cancelled => exact ⟨storing, active, nofun, matching⟩
  | stored _ valid =>
    have tables : (imageTables s.store.image).bytes.length = tableSetSize := by simp [imageTables, image]
    refine ⟨fun _ => valid, active, staging, fun matches_ => ?_⟩
    exact absurd (matches_.symm.trans (imageMatches_spoiled s.freeDraws _ tables)) (by decide)
  | reloaded => exact ⟨nofun, active, staging, matching⟩
  | forced | emptied => exact State.ValidOk.of_eq ⟨storing, active, staging, matching⟩ (by simp) (by simp) (by simp)
  | same | assigned | cleared | opened | selected | sought | fetched | pendedReset =>
    exact ⟨storing, active, staging, matching⟩

/-- The end of an image read loads a matching image, whose content is validated, or clears the flag (R150). -/
theorem State.ValidOk.endImageRead {s : State} (h : s.ValidOk) (none : s.banks.commit = .none) :
    s.endImageRead.ValidOk := by
  obtain ⟨-, -, -, matching⟩ := h
  unfold State.endImageRead
  dsimp only
  refine ⟨fun storing => by simp at storing, fun valid => ?_, fun pending => ?_, fun matches_ => ?_⟩
  · have matches_ : imageMatches s.store.image = true := by simpa using valid
    simpa [loadedTables, matches_] using matching matches_
  · simp [none] at pending
  · simpa using matching (by simpa using matches_)

/-- The end of a store that reads back as written leaves the active bank in the image (R151, R152). -/
theorem State.ValidOk.endStore {s : State} (h : s.ValidOk) (storing : s.store.state = .storing)
    (length : s.banks.active.bytes.length = tableSetSize) : (s.endStore []).ValidOk := by
  obtain ⟨running, active, staging, -⟩ := h
  have written : imageTables (writtenImage s.banks.active) = s.banks.active := imageTables_imageOf _ _ length
  have read : (s.storeRead (writtenImage s.banks.active)).ValidOk :=
    ⟨fun idle => by simp at idle, by simpa using active, by simpa using staging,
      fun _ => by simpa [written] using active (running storing)⟩
  exact (SwapsOrKeeps.attempt (s := s.storeRead (writtenImage s.banks.active)) rfl rfl).validOk read (by simp)

/-- The end of a reload writes staging, under which no commit is pending (R154). -/
theorem State.ValidOk.endReload {s : State} (h : s.ValidOk) (free : s.banks.commit ≠ .pending) : s.endReload.ValidOk := by
  obtain ⟨-, active, -, matching⟩ := h
  unfold State.endReload
  dsimp only
  split
  · exact ⟨nofun, active, fun pending => absurd pending free, matching⟩
  · exact ⟨nofun, active, fun pending => absurd pending free, matching⟩

/-- Every event keeps validated content, unless it loses a byte of the image or leaves a store otherwise than written. -/
theorem State.ValidOk.effect {s u : State} {i : Instr} (h : s.ValidOk) (effect : Effect s i u) (sizes : s.SizesOk)
    (commit : s.CommitOk) (reading : s.ReadingOk) (noLoss : ∀ lost, i ≠ .nonvolatileContentLoss lost)
    (good : ∀ left, i = .storeEnd left → left = []) : u.ValidOk := by
  obtain ⟨active, -, image, -⟩ := sizes
  have carried : ∀ (f : Frame) (w : Bool), (judgePayload w f.payload (s.windowStep f.payload)).state.ValidOk :=
    fun f w => (h.of_eq (by simp) (by simp) (by simp) : (s.windowStep f.payload).ValidOk).judged
      (judgePayload_judged w f.payload s) (commit.windowStep f.payload) (by simpa using image)
  cases effect with
  | taken _ f w =>
    rw [takeCommand_eq]
    exact (carried f w).of_eq (by simp) (by simp) (by simp)
  | broadcast _ f w => exact (carried f w).of_eq (by simp) (by simp) (by simp)
  | demanded _ f => exact (SwapsOrKeeps.guardDemand s f).validOk h (by simp)
  | sampled _ f =>
    exact ((SwapsOrKeeps.snoop s f).validOk h (by simp)).of_eq (by simp) (by simp) (by simp)
  | watchExpiry => exact (SwapsOrKeeps.watchExpiry s).validOk h (by simp)
  | keyLost => exact (SwapsOrKeeps.keyLost s).validOk h (by simp)
  | attempted => exact (SwapsOrKeeps.attempt rfl rfl).validOk h (by simp)
  | cabDeparts =>
    unfold State.cabDeparts
    split
    · exact h
    · split
      · exact ⟨nofun, h.2.1, nofun, h.2.2.2⟩
      · exact h.of_eq (by simp) (by simp) (by simp)
  | lineReset => exact ⟨nofun, h.2.1, nofun, h.2.2.2⟩
  | powerOn =>
    refine ⟨nofun, h.2.1, nofun, fun matches_ => ?_⟩
    have kept : (imageMatches (imageAfterPowerOn s.freeDraws s.store.state s.store.image)) = true := matches_
    change (imageTables (imageAfterPowerOn s.freeDraws s.store.state s.store.image)).Valid
    cases store : s.store.state with
    | storing =>
      rw [store] at kept
      exact absurd (kept.symm.trans (imageMatches_spoiled s.freeDraws _ (cutStoreTables_length _))) (by decide)
    | idle => exact h.2.2.2 (by rwa [store] at kept)
    | reloading => exact h.2.2.2 (by rwa [store] at kept)
  | imageReadEnd read =>
    obtain ⟨-, -, -, -, -, -, -, -, none, -⟩ := reading read
    exact h.endImageRead none
  | storeEnd left store =>
    rw [good left rfl]
    exact h.endStore store active
  | reloadEnd _ store => exact h.endReload fun pending => (commit.1 pending).2 store
  | contentLost lost => exact absurd rfl (noLoss lost)
  | craneward | cabward | synced | replyJoins => exact h.of_eq (by simp) (by simp) (by simp)
  | idle | latched | craneDeparts | liftTicked | workTicked => exact h.of_eq rfl rfl rfl

/-- Settles O59, by the effects of an event. -/
theorem validatedContentKept : Obligations.ValidatedContentKept := by
  intro s t i sizes commit reading valid noLoss good ran
  exact exec_keeps (H := fun s => s.SizesOk ∧ s.CommitOk ∧ s.ReadingOk ∧ s.ValidOk) (P := State.ValidOk)
    (fun _ _ h => h) (fun _ _ h effect => h.2.2.2.effect effect h.1 h.2.1 h.2.2.1 noLoss good) (fun _ h => h)
    ⟨sizes, commit, reading, valid⟩ ran

end Sys2Proof.Machine

/-! PROOFS. The lists of fixed length keep it (spec/03, spec/05, spec/07, spec/11, R61, R88, R124, R170) -/

namespace Sys2Proof.Machine

/-! ### Operations that keep the open set or discard it, and the number of tallies -/

/-- An operation keeps the open set or discards it, and keeps the number of tallies. -/
structure KeepsSets (s t : State) : Prop where
  /-- The open set stays or is discarded (R130, R131). -/
  openSet : t.openSet = s.openSet ∨ t.openSet = none
  /-- There are as many tallies as before (R88). -/
  tallies : t.tally.tallies.length = s.tally.tallies.length

/-- Nothing done. -/
theorem KeepsSets.refl (s : State) : KeepsSets s s := ⟨.inl rfl, rfl⟩

/-- One operation after another. -/
theorem KeepsSets.trans {s t u : State} (first : KeepsSets s t) (second : KeepsSets t u) : KeepsSets s u where
  openSet := by
    obtain kept | gone := second.openSet
    · rw [kept]
      exact first.openSet
    · exact .inr gone
  tallies := second.tallies.trans first.tallies

/-- An operation that leaves the open set and the Tally Unit. -/
theorem KeepsSets.of_eq {s t : State} (openSet : t.openSet = s.openSet) (tally : t.tally = s.tally) : KeepsSets s t :=
  ⟨.inl openSet, by rw [tally]⟩

/-- A latch leaves both. -/
theorem KeepsSets.latch {s : State} {k : Condition} : KeepsSets s (s.latch k) := .of_eq rfl rfl

/-- The end of a search leaves both. -/
theorem KeepsSets.failSearch {s : State} : KeepsSets s s.failSearch := .of_eq (by simp) (by simp)

/-- The tare search leaves both. -/
theorem KeepsSets.tareStep {s : State} {t : TipPosition} : KeepsSets s (s.tareStep t) := .of_eq (by simp) (by simp)

/-- A new tip position leaves both. -/
theorem KeepsSets.takeRecord {s : State} {t : TipPosition} : KeepsSets s (s.takeRecord t) :=
  .of_eq (by simp) (by simp)

/-- A swap discards the open set where the Channel Map changes (R131). -/
theorem KeepsSets.attemptSwap (s : State) : KeepsSets s s.attemptSwap := by
  obtain same | ⟨-, -, swapped⟩ := s.attemptSwap_cases
  · rw [same]
    exact .refl s
  · rw [swapped]
    refine ⟨?_, by simp⟩
    rw [State.swap_openSet, openSetAfterSwap]
    split
    · exact .inl rfl
    · exact .inr rfl

/-- A booked record changes one tally (R90). -/
theorem KeepsSets.bookRecord (s : State) (r : LiftRecord) : KeepsSets s (s.bookRecord r) := by
  have booked : ∀ (u : TallyUnit) (r : LiftRecord), (u.book r).tallies.length = u.tallies.length := by
    intro u r
    unfold TallyUnit.book
    cases r.kind <;> simp
  have queued : ∀ (u : State) (r : LiftRecord), (u.queueRecord r).tally.tallies = u.tally.tallies := by
    intro u r
    unfold State.queueRecord
    split <;> rfl
  refine ⟨.inl (by simp), ?_⟩
  unfold State.bookRecord
  dsimp only
  rw [queued]
  split <;> simp [booked]

/-- The end of a lift with its record (R79). -/
theorem KeepsSets.endLiftRecorded (s : State) (kind : LiftKind) (release : Option Cell) :
    KeepsSets s (s.endLiftRecorded kind release) := by
  unfold State.endLiftRecorded
  split
  · exact (KeepsSets.of_eq (by simp) (by simp) : KeepsSets s s.endLift).trans (.bookRecord _ _)
  · exact .of_eq rfl rfl

/-- The Lift Unit is told the guard state (R37, R80). -/
theorem KeepsSets.liftGuardChange (s : State) (g : GuardState) : KeepsSets s (s.liftGuardChange g) := by
  have abandoned : KeepsSets s s.abandonLift := by
    unfold State.abandonLift
    split
    · exact .refl s
    · exact .of_eq rfl rfl
    · exact (KeepsSets.endLiftRecorded s _ _).trans (.of_eq rfl rfl)
    · exact (KeepsSets.endLiftRecorded s _ _).trans (.of_eq rfl rfl)
  cases g with
  | blocked => exact abandoned
  | hold => exact .of_eq rfl rfl
  | enforce => exact .refl s
  | service => exact abandoned.trans .failSearch
  | park => exact abandoned.trans .failSearch

/-- A tip position at the Lift Unit (R65). -/
theorem KeepsSets.liftTake (s : State) (t : TipPosition) : KeepsSets s (s.liftTake t) := by
  have stepped : ∀ (u : State) (e : GrappleEvent), KeepsSets u (u.liftStep e t) := by
    intro u e
    have marked : KeepsSets u u.markOverload := .of_eq (by simp) (by simp)
    have released : KeepsSets u (u.markOverload.releaseAloft t) :=
      (marked.trans (.endLiftRecorded _ _ _)).trans (.attemptSwap _)
    unfold State.liftStep
    split
    case h_4 => exact (marked.trans (.of_eq (t := u.markOverload.endLift) rfl rfl)).trans (.attemptSwap _)
    case h_7 | h_10 => exact released
    all_goals exact .of_eq (by simp) (by simp)
  have gripped : KeepsSets s (s.grappleStep t) := .of_eq (by simp) (by simp)
  unfold State.liftTake
  dsimp only
  split
  · exact (gripped.trans (stepped _ _)).trans .tareStep
  · exact gripped.trans .tareStep

/-- The entry actions; PARK discards the open set (R37, R130). -/
theorem KeepsSets.enterGuard (s : State) (g : GuardState) (byExpiry : Bool) : KeepsSets s (s.enterGuard g byExpiry) := by
  by_cases same : s.guard.state = g
  · rw [State.enterGuard_same same]
    exact .refl s
  · rw [State.enterGuard_changed same]
    have entered : KeepsSets s (s.entry g byExpiry) := by
      refine ⟨?_, rfl⟩
      change openSetAfterEntry g s.openSet = _ ∨ openSetAfterEntry g s.openSet = _
      cases g <;> simp [openSetAfterEntry]
    exact (entered.trans (.liftGuardChange _ g)).trans (.attemptSwap _)

/-- A tip position at the guard (R40). -/
theorem KeepsSets.guardTake (s : State) : KeepsSets s s.guardTake := by
  have seen : KeepsSets s s.tipSeen := .of_eq rfl rfl
  rw [State.guardTake_eq]
  split
  · exact seen.trans (.enterGuard _ _ _)
  · exact seen

/-- A complete set (R3). -/
theorem KeepsSets.deliver (s : State) (x : SampleSet) : KeepsSets s (s.deliver x) := by
  rw [State.deliver_eq]
  exact (KeepsSets.takeRecord.trans (.guardTake _)).trans (.liftTake _ _)

/-- WATCH_EXPIRY (R42). -/
theorem KeepsSets.watchExpiry (s : State) : KeepsSets s s.watchExpiry := by
  unfold State.watchExpiry
  split
  · exact (KeepsSets.of_eq (by simp) (by simp) : KeepsSets s s.watchExpires).trans (.enterGuard _ _ _)
  all_goals exact .of_eq rfl rfl

/-- SKEY_DEASSERT (R47). -/
theorem KeepsSets.keyLost (s : State) : KeepsSets s s.keyLost := by
  have released : KeepsSets s { s with pins := { s.pins with skey := false } } := .of_eq rfl rfl
  unfold State.keyLost
  dsimp only
  split
  · exact (released.trans (.enterGuard _ _ _)).trans .latch
  · exact released

/-- A DEMAND frame (R60). -/
theorem KeepsSets.guardDemand (s : State) (f : Frame) : KeepsSets s (s.guardDemand f) := by
  obtain same | ⟨-, out, -, dropped | ⟨-, waits | ⟨-, attempted⟩⟩⟩ := s.guardDemand_cases f
  · rw [same]
    exact .refl s
  · rw [dropped]
    exact .of_eq (by simp) (by simp)
  · rw [waits]
    exact .of_eq (by simp) (by simp)
  · rw [attempted]
    exact (KeepsSets.of_eq (s := s) (by simp) (by simp)).trans (.attemptSwap _)

/-! ### The limit flags (R61) -/

/-- The entry actions leave eight limit flags (R37). -/
theorem State.enterGuard_flags {s : State} (eight : s.guard.limitFlags.length = 8) (g : GuardState) (byExpiry : Bool) :
    (s.enterGuard g byExpiry).guard.limitFlags.length = 8 := by
  by_cases same : s.guard.state = g
  · rwa [State.enterGuard_same same]
  · rw [State.enterGuard_guard same]
    rfl

/-- A tip position at the guard leaves eight limit flags. -/
theorem State.guardTake_flags {s : State} (eight : s.guard.limitFlags.length = 8) :
    s.guardTake.guard.limitFlags.length = 8 := by
  have seen : s.tipSeen.guard.limitFlags.length = 8 := by simpa using eight
  rw [State.guardTake_eq]
  split
  · exact State.enterGuard_flags seen _ _
  · exact seen

/-- Eight demands are filtered into eight (R52, R167). -/
theorem State.filterDemands_length (s : State) (payload : Bytes) :
    (s.filterDemands (demandsOf payload)).length = 8 := by
  simp [State.filterDemands, demandsOf]

/-- A DEMAND frame writes eight limit flags or none (R61). -/
theorem State.guardDemand_flags {s : State} (eight : s.guard.limitFlags.length = 8) (f : Frame) :
    (s.guardDemand f).guard.limitFlags.length = 8 := by
  have judged : ∀ out, out = s.filterDemands (demandsOf f.payload) → (s.demandJudged out).guard.limitFlags.length = 8 := by
    rintro out rfl
    obtain same | written := State.demandJudged_guard (s.filterDemands (demandsOf f.payload)) s
    · rwa [same]
    · rw [written]
      simp [State.filterDemands_length]
  obtain same | ⟨-, out, filtered, dropped | ⟨-, waits | ⟨-, attempted⟩⟩⟩ := s.guardDemand_cases f
  · rwa [same]
  · rw [dropped]
    exact judged out filtered
  · rw [waits]
    exact judged out filtered
  · rw [attempted]
    simpa using judged out filtered

/-- An expiry and the fall of the service key leave eight limit flags (R42, R47). -/
theorem State.expiry_flags {s : State} (eight : s.guard.limitFlags.length = 8) :
    s.watchExpiry.guard.limitFlags.length = 8 ∧ s.keyLost.guard.limitFlags.length = 8 := by
  constructor
  · unfold State.watchExpiry
    split
    · exact State.enterGuard_flags (by exact eight) _ _
    all_goals exact eight
  · unfold State.keyLost
    dsimp only
    split
    · exact State.enterGuard_flags (by exact eight) _ _
    · exact eight

/-! ### The invariant -/

/-- An operation on the banks, the open set and the tallies as above, with the image's length and the number of limit flags
kept. -/
theorem State.SizesOk.of_swap {s t : State} (h : s.SizesOk) (swap : SwapsOrKeeps s t) (sets : KeepsSets s t)
    (image : t.store.image.length = s.store.image.length) (flags : t.guard.limitFlags.length = 8) : t.SizesOk := by
  obtain ⟨active, staging, length, -, tallies, slots⟩ := h
  refine ⟨?_, ?_, by rw [image, length], flags, by rw [sets.tallies, tallies], fun o opened => ?_⟩
  · cases swap with
    | keeps banks => rw [banks, active]
    | swaps _ banks => rw [banks, staging]
  · cases swap with
    | keeps banks => rw [banks, staging]
    | swaps _ banks => rw [banks, staging]
  · obtain kept | gone := sets.openSet
    · exact slots o (by rwa [← kept])
    · exact nomatch gone.symm.trans opened

/-- An operation that keeps the lengths. -/
theorem State.SizesOk.of_eq {s t : State} (h : s.SizesOk) (banks : t.banks = s.banks)
    (image : t.store.image.length = s.store.image.length)
    (flags : t.guard.limitFlags.length = s.guard.limitFlags.length)
    (tallies : t.tally.tallies.length = s.tally.tallies.length) (openSet : t.openSet = s.openSet) : t.SizesOk := by
  unfold State.SizesOk at h ⊢
  rwa [banks, image, flags, tallies, openSet]

/-- The commands: TABLE DATA keeps the length of staging, STORE that of the image (R139, R151). -/
theorem State.SizesOk.judged {s t : State} (h : s.SizesOk) (judged : Judged s t) : t.SizesOk := by
  have ⟨active, staging, image, flags, tallies, slots⟩ := h
  cases judged with
  | entered g =>
    exact h.of_swap (.enterGuard s g false) (.enterGuard s g false) (by simp) (State.enterGuard_flags flags g false)
  | swapped =>
    refine ⟨by simpa using staging, by simpa using staging, by simpa using image, by simpa using flags, by simpa using tallies,
      fun o opened => ?_⟩
    rw [State.swap_openSet, openSetAfterSwap] at opened
    split at opened
    · exact slots o opened
    · exact nomatch opened
  | written entries w => exact ⟨active, writeEntries_length entries _ w staging, image, flags, tallies, slots⟩
  | stored =>
    have tables : (imageTables s.store.image).bytes.length = tableSetSize := by simp [imageTables, image]
    exact ⟨active, staging, imageOf_length _ _ tables, flags, tallies, slots⟩
  | emptied => exact ⟨by simpa using active, by simpa using staging, by simpa using image, by simpa using flags, by simp,
      fun o opened => slots o (by simpa using opened)⟩
  | forced on =>
    refine h.of_eq (by simp) (by simp) ?_ (by simp) (by simp)
    unfold State.setForceTest
    split <;> simp [State.driveVen]
  | same | assigned | cleared | opened | pended | cancelled | reloaded | selected | sought | fetched | pendedReset =>
    exact h

/-- A set whose slots are taken for pairs keeps their number (R126). -/
theorem takePairs_length (b : TableSet) (src : Nat) (pairs : List (Nat × Int)) (slots : List (Option Int)) :
    (takePairs b src pairs slots).length = slots.length := by
  have one : ∀ pair slots, (takePair b src slots pair).length = slots.length := by
    intro pair slots
    unfold takePair
    split
    · rfl
    · split_ifs <;> simp
  induction pairs generalizing slots with
  | nil => rfl
  | cons pair rest ih =>
    unfold takePairs
    split_ifs
    · rfl
    · rw [ih, one]

/-- A SAMPLE frame fills slots of the open set, or completes it (R126, R127). -/
theorem State.SizesOk.snoop {s : State} (h : s.SizesOk) (f : Frame) : (s.snoop f).SizesOk := by
  have delivered : ∀ (u : State) (x : SampleSet), u.SizesOk → (u.deliver x).SizesOk := by
    intro u x ok
    have eight : (u.deliver x).guard.limitFlags.length = 8 := by
      rw [State.deliver_eq, (State.liftTake_frame _ _).2.2.2.2.2.1]
      exact State.guardTake_flags (by simpa using ok.2.2.2.1)
    exact ok.of_swap (.deliver u x) (.deliver u x) (by simp) eight
  obtain ⟨active, staging, image, flags, tallies, slots⟩ := h
  unfold State.snoop
  split
  · next n o _ opened =>
    dsimp only
    split
    · split
      · exact delivered _ _ ⟨active, staging, image, flags, tallies, nofun⟩
      · refine ⟨active, staging, image, flags, tallies, fun o' filled => ?_⟩
        cases filled
        exact (takePairs_length _ _ _ _).trans (slots o opened)
    · exact ⟨active, staging, image, flags, tallies, slots⟩
  · exact ⟨active, staging, image, flags, tallies, slots⟩

/-- A SYNC frame opens eight empty slots (R125). -/
theorem State.SizesOk.takeSync {s : State} (h : s.SizesOk) (sequence : Byte) : (s.takeSync sequence).SizesOk := by
  obtain ⟨active, staging, image, flags, tallies, -⟩ := h
  have lost : s.guard.lostSet.limitFlags = s.guard.limitFlags := by
    unfold EnvelopeGuard.lostSet
    split <;> rfl
  refine ⟨by simpa using active, by simpa using staging, by simpa using image, ?_, by simpa using tallies, fun o opened => ?_⟩
  · unfold State.takeSync
    dsimp only
    split
    · exact (congrArg List.length lost).trans flags
    · exact flags
  · cases opened
    rfl

/-- The image after a power-on reset has its length (R153). -/
theorem imageAfterPowerOn_length {image : Bytes} (length : image.length = tableSetSize + 2) (draw : Nat)
    (store : StoreState) : (imageAfterPowerOn draw store image).length = tableSetSize + 2 := by
  cases store with
  | storing => exact imageOf_length _ _ (cutStoreTables_length draw)
  | idle => exact length
  | reloading => exact length

/-- The Table Set that an image read loads has its length (R150). -/
theorem loadedTables_length {image : Bytes} (length : image.length = tableSetSize + 2) :
    (loadedTables image).bytes.length = tableSetSize := by
  unfold loadedTables
  split
  · simp [imageTables, length]
  · exact factoryDefaults_length

/-- Every event keeps the lengths. -/
theorem State.SizesOk.effect {s u : State} {i : Instr} (h : s.SizesOk) (effect : Effect s i u) : u.SizesOk := by
  have ⟨active, staging, image, flags, tallies, slots⟩ := h
  have carried : ∀ (f : Frame) (w : Bool), (judgePayload w f.payload (s.windowStep f.payload)).state.SizesOk :=
    fun f w => (h.of_eq (by simp) (by simp) (by simp) (by simp) (by simp) : (s.windowStep f.payload).SizesOk).judged
      (judgePayload_judged w f.payload s)
  cases effect with
  | taken _ f w =>
    rw [takeCommand_eq]
    exact (carried f w).of_eq (by simp) (by simp) (by simp) (by simp) (by simp)
  | broadcast _ f w => exact (carried f w).of_eq (by simp) (by simp) (by simp) (by simp) (by simp)
  | synced _ f sequence => exact (h.takeSync sequence).of_eq (by simp) (by simp) (by simp) (by simp) (by simp)
  | demanded _ f => exact h.of_swap (.guardDemand s f) (.guardDemand s f) (by simp) (State.guardDemand_flags flags f)
  | sampled _ f => exact (h.snoop f).of_eq (by simp) (by simp) (by simp) (by simp) (by simp)
  | watchExpiry => exact h.of_swap (.watchExpiry s) (.watchExpiry s) (by simp) (State.expiry_flags flags).1
  | keyLost => exact h.of_swap (.keyLost s) (.keyLost s) (by simp) (State.expiry_flags flags).2
  | attempted => exact h.of_swap (.attempt rfl rfl) (.attemptSwap s) (by simp) (by simpa using flags)
  | cabDeparts =>
    unfold State.cabDeparts
    split
    · exact h
    · split
      · exact ⟨active, staging, image, rfl, tallies, nofun⟩
      · exact h.of_eq (by simp) (by simp) (by simp) (by simp) (by simp)
  | lineReset => exact ⟨active, staging, image, rfl, tallies, nofun⟩
  | powerOn => exact ⟨active, staging, imageAfterPowerOn_length image _ _, rfl, rfl, nofun⟩
  | imageReadEnd =>
    have loaded := loadedTables_length image
    exact ⟨by simpa [State.endImageRead] using loaded, by simpa [State.endImageRead] using loaded,
      by simpa [State.endImageRead] using image, by simpa using flags, by simpa using tallies,
      fun o opened => slots o (by simpa using opened)⟩
  | storeEnd left =>
    have written : (changeBytes (writtenImage s.banks.active) left).length = tableSetSize + 2 :=
      (changeBytes_length _ _).trans (imageOf_length _ _ active)
    have read : (s.storeRead (changeBytes (writtenImage s.banks.active) left)).SizesOk :=
      h.of_eq (by simp) (by simp [written, image]) (by simp) (by simp) (by simp)
    rw [State.endStore_eq]
    exact read.of_swap (.attempt rfl rfl) (.attemptSwap _) (by simp) (by simpa using flags)
  | reloadEnd =>
    unfold State.endReload
    dsimp only
    split
    · exact ⟨active, by simp [imageTables, image], image, flags, tallies, slots⟩
    · exact ⟨active, staging, image, flags, tallies, slots⟩
  | contentLost lost => exact ⟨active, staging, (changeBytes_length _ _).trans image, flags, tallies, slots⟩
  | craneward | cabward | replyJoins => exact h.of_eq (by simp) (by simp) (by simp) (by simp) (by simp)
  | idle | latched | craneDeparts | liftTicked | workTicked => exact h

end Sys2Proof.Machine

/-! PROOFS. The output queues, the router and a pending line reset (spec/06, spec/10, R106, R113, R116, R160, R161) -/

namespace Sys2Proof.Machine

/-! ### The invariant of the line -/

/-- The queues, the router and a pending line reset as the rules have them. -/
def State.LineOk (s : State) : Prop := s.QueuesOk ∧ s.RouterOk ∧ s.LineResetOk

/-- The LINE RESET replies of a cab-bound queue (R161). -/
def resetReplies (queue : List OutFrame) : Nat := queue.countP (fun r => r.origin == .lineResetReply)

/-- The LINE RESET replies of a queue that a frame has joined. -/
theorem resetReplies_append (queue : List OutFrame) (r : OutFrame) :
    resetReplies (queue ++ [r]) = resetReplies queue + if r.origin = .lineResetReply then 1 else 0 := by
  simp [resetReplies, List.countP_append]

/-- The LINE RESET replies of a reply slot. -/
def slotReplies (slot : Option OutFrame) : Nat := if slot.any (fun r => r.origin == .lineResetReply) then 1 else 0

/-- A frame in the reply slot. -/
theorem slotReplies_some (r : OutFrame) : slotReplies (some r) = if r.origin = .lineResetReply then 1 else 0 := by
  simp [slotReplies]

/-- The invariant of a pending line reset, by the numbers of its replies. -/
theorem State.lineResetOk_iff (s : State) :
    s.LineResetOk ↔
      (s.unit.lineResetPending = true → s.store.state = .idle ∧ s.unit.window = none ∧ s.router.link = .linked)
        ∧ resetReplies s.line.cabQueue + slotReplies s.unit.replySlot = if s.unit.lineResetPending then 1 else 0 :=
  Iff.rfl

/-- An operation that keeps the line, the router and the Command Unit, and the store state under a pending line reset. -/
theorem State.LineOk.of_eq {s t : State} (h : s.LineOk) (line : t.line = s.line) (router : t.router = s.router)
    (unit : t.unit = s.unit) (store : s.unit.lineResetPending = true → s.store.state = .idle → t.store.state = .idle) :
    t.LineOk := by
  obtain ⟨queues, address, pending, replies⟩ := h
  unfold State.LineOk State.QueuesOk State.RouterOk State.LineResetOk at *
  rw [line, router, unit]
  exact ⟨queues, address, fun p => ⟨store p (pending p).1, (pending p).2⟩, replies⟩

/-- An operation that leaves the Image Store too. -/
theorem State.LineOk.of_frame {s t : State} (h : s.LineOk) (line : t.line = s.line) (router : t.router = s.router)
    (unit : t.unit = s.unit) (store : t.store = s.store) : t.LineOk :=
  h.of_eq line router unit fun _ idle => by rw [store, idle]

/-- A LINKED machine's crane-bound queue may change within its bound. -/
theorem State.LineOk.of_craneQueue {s t : State} (h : s.LineOk) (cab : t.line.cabQueue = s.line.cabQueue)
    (length : t.line.craneQueue.length ≤ queueLimit)
    (dark : s.router.link = .dark → s.line.craneQueue = [] → t.line.craneQueue = []) (router : t.router = s.router)
    (unit : t.unit = s.unit) (store : t.store = s.store) : t.LineOk := by
  obtain ⟨⟨cabLength, -, slot⟩, address, pending, replies⟩ := h
  refine ⟨⟨by rwa [cab], length, by rwa [unit, cab]⟩, ?_, ?_⟩
  · unfold State.RouterOk at address ⊢
    rw [router]
    obtain ⟨link, node, cso, queue⟩ | linked := address
    · exact .inl ⟨link, node, cso, dark link queue⟩
    · exact .inr linked
  · unfold State.LineResetOk
    rw [cab, router, unit, store]
    exact ⟨pending, replies⟩

/-- A frame forwarded crane-ward (R114). -/
theorem State.LineOk.forwardCrane {s : State} (h : s.LineOk) (linked : s.router.link = .linked) (f : Frame) :
    (s.forwardCrane f).LineOk := by
  obtain ⟨room, joined⟩ | ⟨-, dropped⟩ := s.forwardCrane_cases f
  · rw [joined]
    exact h.of_craneQueue rfl (by simpa using room) (fun dark => nomatch dark.symm.trans linked) rfl rfl rfl
  · rw [dropped]
    exact h.of_frame rfl rfl rfl rfl

/-- A frame forwarded cab-ward is no LINE RESET reply (R115). -/
theorem State.LineOk.forwardCab {s : State} (h : s.LineOk) (f : Frame) : (s.forwardCab f).LineOk := by
  obtain ⟨room, joined⟩ | ⟨-, dropped⟩ := s.forwardCab_cases f
  · obtain ⟨⟨-, crane, slot⟩, address, reset⟩ := h
    obtain ⟨pending, replies⟩ := s.lineResetOk_iff.mp reset
    have empty : s.unit.replySlot.isSome → False := fun waits => Nat.ne_of_lt room (slot waits)
    rw [joined]
    refine ⟨⟨by simpa using room, crane, fun waits => (empty waits).elim⟩, address, pending, ?_⟩
    change resetReplies (s.line.cabQueue ++ [_]) + slotReplies s.unit.replySlot = _
    rw [resetReplies_append]
    simpa using replies
  · rw [dropped]
    exact h.of_frame rfl rfl rfl rfl

/-! ### Replies -/

/-- A waiting reply that joins stays one reply (R116). -/
theorem State.LineOk.replyJoins {s : State}
    (cab : s.line.cabQueue.length ≤ queueLimit) (crane : s.line.craneQueue.length ≤ queueLimit)
    (address : s.RouterOk)
    (reset : s.LineResetOk) : s.replyJoins.LineOk := by
  obtain ⟨pending, replies⟩ := s.lineResetOk_iff.mp reset
  unfold State.replyJoins
  split
  · next r waits =>
    split
    · next room =>
      refine ⟨⟨by simpa using room, crane, nofun⟩, address, pending, ?_⟩
      change resetReplies (s.line.cabQueue ++ [r]) + 0 = _
      rw [resetReplies_append]
      rw [waits, slotReplies_some] at replies
      simpa using replies
    · next full => exact ⟨⟨cab, crane, fun _ => Nat.le_antisymm cab (Nat.not_lt.mp full)⟩, address, reset⟩
  · next none => exact ⟨⟨cab, crane, fun waits => by simp [none] at waits⟩, address, reset⟩

/-- A reply placed by a command: the one LINE RESET reply exactly where the command has left a line reset pending (R116,
R160). -/
theorem State.LineOk.placeReply {s : State} (cab : s.line.cabQueue.length ≤ queueLimit)
    (crane : s.line.craneQueue.length ≤ queueLimit) (slot : s.unit.replySlot = none) (address : s.RouterOk)
    (zero : resetReplies s.line.cabQueue = 0)
    (pending : s.unit.lineResetPending = true → s.store.state = .idle ∧ s.unit.window = none ∧ s.router.link = .linked)
    (r : OutFrame) (mark : r.origin = if s.unit.lineResetPending then .lineResetReply else .reply) :
    (s.placeReply r).LineOk := by
  have one : (if r.origin = .lineResetReply then 1 else 0) = if s.unit.lineResetPending then 1 else 0 := by
    rw [mark]
    cases s.unit.lineResetPending <;> rfl
  obtain ⟨room, joined⟩ | ⟨full, waits⟩ := s.placeReply_cases r
  · rw [joined]
    refine ⟨⟨by simpa using room, crane, fun waits => by simp [slot] at waits⟩, address, pending, ?_⟩
    change resetReplies (s.line.cabQueue ++ [r]) + slotReplies s.unit.replySlot = _
    rw [resetReplies_append, zero, slot, one]
    simp [slotReplies]
  · rw [waits]
    refine ⟨⟨cab, crane, fun _ => Nat.le_antisymm cab full⟩, address, pending, ?_⟩
    change resetReplies s.line.cabQueue + slotReplies (some r) = _
    rw [zero, slotReplies_some, one]
    simp

/-! ### Commands -/

/-- What carrying out a command does to the line, the router and the Command Unit: the queues and the slot stay, the router may
be assigned an address, and LINE RESET pends with the window closed and the store IDLE (R108, R160). -/
theorem Judged.line {s t : State} (judged : Judged s t) :
    t.line = s.line ∧ t.unit.replySlot = s.unit.replySlot
      ∧ (t.router = s.router ∨ ∃ a, 1 ≤ a ∧ a ≤ 30 ∧ t.router = ⟨BitVec.ofNat 5 a, .linked, true⟩)
      ∧ (t.unit.lineResetPending = s.unit.lineResetPending
        ∨ (t.store.state = .idle ∧ t.unit.window = none ∧ t.router = s.router)) := by
  cases judged with
  | assigned a low high => exact ⟨rfl, rfl, .inr ⟨a, low, high, rfl⟩, .inl rfl⟩
  | pendedReset closed store => exact ⟨rfl, rfl, .inl rfl, .inr ⟨store, closed, rfl⟩⟩
  | entered | forced | swapped | emptied => exact ⟨by simp, by simp, .inl (by simp), .inl (by simp)⟩
  | same | cleared | opened | written | pended | cancelled | stored | reloaded | selected | sought | fetched =>
    exact ⟨rfl, rfl, .inl rfl, .inl rfl⟩

/-- Only LINE RESET makes a line reset pending (R160). -/
theorem judgePayload_lineResetPending (windowOpen : Bool) {payload : Bytes} (s : State)
    (other : commandOfPayload payload ≠ some .lineReset) :
    (judgePayload windowOpen payload s).state.unit.lineResetPending = s.unit.lineResetPending := by
  unfold judgePayload
  cases named : commandOfPayload payload with
  | none => rfl
  | some c =>
    cases c
    case lineReset => exact absurd named other
    all_goals
      simp only [judgeCommand, judgeAssignAddress, judgeReadStatus, judgeClearConditions, judgeGuardStart, judgeGuardStop,
        judgeServiceEnter, judgeServiceExit, judgePark, judgeParkExit, judgeForceTest, judgeTableWrite, judgeTableData,
        judgeTableRead, judgeCommit, judgeCancelCommit, judgeStore, judgeReload, judgeSelectAssortment, judgeTare,
        judgeFetchLift, judgeReadTally, judgeClearTally, State.done, State.accept, State.refuse]
      (repeat' split) <;> simp

/-- The window step leaves the reply slot and a pending line reset. -/
@[simp] theorem State.windowStep_unit (s : State) (payload : Bytes) :
    (s.windowStep payload).unit.replySlot = s.unit.replySlot
      ∧ (s.windowStep payload).unit.lineResetPending = s.unit.lineResetPending := by
  unfold State.windowStep
  split <;> exact ⟨rfl, rfl⟩

/-- An assigned address is one of 1 to 30 (R106, R108). -/
theorem State.RouterOk.assigned {s t : State} (h : s.RouterOk) (line : t.line = s.line)
    (router : t.router = s.router ∨ ∃ a, 1 ≤ a ∧ a ≤ 30 ∧ t.router = ⟨BitVec.ofNat 5 a, .linked, true⟩) : t.RouterOk := by
  unfold State.RouterOk at h ⊢
  obtain same | ⟨a, low, high, given_⟩ := router
  · rwa [same, line]
  · have value : (BitVec.ofNat 5 a).toNat = a := by
      rw [BitVec.toNat_ofNat]
      omega
    rw [given_]
    exact .inr ⟨rfl, by rwa [value], by rwa [value], rfl⟩

/-- A command taken places its reply; LINE RESET, which only a LINKED machine takes, pends with it (R156, R160). -/
theorem State.LineOk.taken {s : State} (h : s.LineOk) (f : Frame) (windowOpen : Bool)
    (notPending : s.unit.lineResetPending = false) (slot : s.unit.replySlot = none)
    (addressed : s.router.link = .linked ∨ commandOfPayload f.payload = some .assignAddress) :
    (takeCommand f (judgePayload windowOpen f.payload) s).LineOk := by
  obtain ⟨⟨cab, crane, -⟩, address, reset⟩ := h
  obtain ⟨-, replies⟩ := s.lineResetOk_iff.mp reset
  obtain ⟨line, slot', router, pending⟩ := (judgePayload_judged windowOpen f.payload s).line
  have marked := judgePayload_lineResetPending windowOpen (payload := f.payload) (s.windowStep f.payload)
  have mark : (replyOf f (judgePayload windowOpen f.payload (s.windowStep f.payload))).origin
      = if (judgePayload windowOpen f.payload (s.windowStep f.payload)).state.unit.lineResetPending then
          .lineResetReply else .reply := rfl
  rw [takeCommand_eq]
  generalize replyOf f (judgePayload windowOpen f.payload (s.windowStep f.payload)) = r at mark
  generalize (judgePayload windowOpen f.payload (s.windowStep f.payload)).state = t at line slot' router pending marked mark
  simp only [State.windowStep_frame, State.windowStep_unit] at line slot' router pending marked
  refine .placeReply (by rwa [line]) (by rwa [line]) (by rwa [slot']) (address.assigned line router) ?_ (fun p => ?_) r mark
  · rw [line]
    rw [notPending] at replies
    simp only [Bool.false_eq_true, if_false] at replies
    omega
  · have isReset : commandOfPayload f.payload = some .lineReset := by
      by_contra other
      exact nomatch (p.symm.trans (marked other)).trans notPending
    obtain same | ⟨idle, closed, kept⟩ := pending
    · exact nomatch (p.symm.trans same).trans notPending
    · refine ⟨idle, closed, ?_⟩
      rw [kept]
      exact addressed.resolve_right fun assign => nomatch isReset.symm.trans assign

/-- A permitted broadcast is no LINE RESET (R111). -/
theorem not_lineReset_of_permitted {payload : Bytes} (permitted : permittedBroadcast payload = true) :
    commandOfPayload payload ≠ some .lineReset := by
  unfold permittedBroadcast at permitted
  simp only [Bool.or_eq_true, beq_iff_eq] at permitted
  obtain (rfl | rfl) | rfl := permitted <;> decide

/-- A broadcast taken and forwarded (R111). -/
theorem State.LineOk.broadcast {s : State} (h : s.LineOk) (f : Frame) (windowOpen : Bool)
    (linked : s.router.link = .linked) (notPending : s.unit.lineResetPending = false)
    (permitted : permittedBroadcast f.payload = true) :
    ((judgePayload windowOpen f.payload (s.windowStep f.payload)).state.forwardCrane f).LineOk := by
  obtain ⟨⟨cab, crane, slot⟩, address, reset⟩ := h
  obtain ⟨-, replies⟩ := s.lineResetOk_iff.mp reset
  obtain ⟨line, slot', router, -⟩ := (judgePayload_judged windowOpen f.payload s).line
  have marked := judgePayload_lineResetPending windowOpen (s.windowStep f.payload) (not_lineReset_of_permitted permitted)
  generalize (judgePayload windowOpen f.payload (s.windowStep f.payload)).state = t at line slot' router marked
  simp only [State.windowStep_frame, State.windowStep_unit] at line slot' router marked
  have ok : t.LineOk := by
    refine ⟨⟨by rwa [line], by rwa [line], by rwa [slot', line]⟩, address.assigned line router, fun p => ?_, ?_⟩
    · exact nomatch (p.symm.trans marked).trans notPending
    · rw [line, slot', marked]
      exact replies
  refine ok.forwardCrane ?_ f
  obtain same | ⟨a, -, -, given_⟩ := router
  · rwa [same]
  · rw [given_]

/-! ### Departures and resets -/

/-- Either reset empties the queues, the slot and the pending line reset (R118, R161, R162). -/
theorem State.lineOk_of_reset {s : State} (line : s.line = ⟨[], []⟩) (unit : s.unit = CommandUnit.reset)
    (router : s.RouterOk) : s.LineOk := by
  refine ⟨?_, router, ?_⟩
  · unfold State.QueuesOk
    rw [line, unit]
    exact ⟨by decide, by decide, nofun⟩
  · unfold State.LineResetOk
    rw [line, unit]
    exact ⟨nofun, rfl⟩

/-- A line reset keeps the router's address and empties its queues (R106, R161). -/
theorem State.LineOk.lineReset {s : State} (h : s.LineOk) : s.lineReset.LineOk := by
  refine State.lineOk_of_reset rfl rfl ?_
  obtain ⟨-, ⟨link, node, cso, -⟩ | linked, -⟩ := h
  · exact .inl ⟨link, node, cso, rfl⟩
  · exact .inr linked

/-- A departure at the Cab Port: of the LINE RESET reply, which resets, or of another frame, whose place a waiting reply
takes (R113, R116, R161). -/
theorem State.LineOk.cabDeparts {s : State} (h : s.LineOk) : s.cabDeparts.LineOk := by
  unfold State.cabDeparts
  split
  · exact h
  · next r rest queue =>
    split
    · exact h.lineReset
    · next notReset =>
      obtain ⟨⟨cab, crane, -⟩, address, reset⟩ := h
      obtain ⟨pending, replies⟩ := s.lineResetOk_iff.mp reset
      have other : r.origin ≠ .lineResetReply := by
        intro isReply
        cases p : s.unit.lineResetPending with
        | true => simp [State.resetReplyFirst, queue, p, isReply] at notReset
        | false =>
          rw [p, queue] at replies
          simp [resetReplies, isReply] at replies
      rw [queue, List.length_cons] at cab
      refine State.LineOk.replyJoins (Nat.le_of_succ_le cab) crane ?_ ⟨pending, ?_⟩
      · exact address
      · rw [queue] at replies
        change resetReplies rest + slotReplies s.unit.replySlot = _
        have same : resetReplies (r :: rest) = resetReplies rest := by simp [resetReplies, other]
        rwa [← same]

/-- A DEMAND frame may join the crane-bound queue (R114). -/
theorem State.LineOk.guardDemand {s : State} (h : s.LineOk) (linked : s.router.link = .linked) (f : Frame) :
    (s.guardDemand f).LineOk := by
  have joined : ∀ out g still, s.line.craneQueue.length < queueLimit
      → ((s.demandJudged out).demandJoined g still).LineOk := by
    intro out g still room
    exact h.of_craneQueue (by simp) (by simpa using room) (fun dark => nomatch dark.symm.trans linked) (by simp) (by simp)
      (by simp)
  obtain same | ⟨-, out, -, dropped | ⟨room, waits | ⟨-, attempted⟩⟩⟩ := s.guardDemand_cases f
  · rwa [same]
  · rw [dropped]
    exact h.of_frame (by simp) (by simp) (by simp) (by simp)
  · rw [waits]
    exact joined _ _ _ room
  · rw [attempted]
    exact (joined out (filteredFrame f out) true room).of_frame (by simp) (by simp) (by simp) (by simp)

/-- Every event keeps the line as the rules have it. -/
theorem State.LineOk.effect {s u : State} {i : Instr} (h : s.LineOk) (effect : Effect s i u) : u.LineOk := by
  cases effect with
  | craneward _ f linked => exact h.forwardCrane linked f
  | cabward _ f => exact h.forwardCab f
  | taken _ f w _ pending slot addressed => exact h.taken f w pending slot addressed
  | broadcast _ f w _ linked pending permitted => exact h.broadcast f w linked pending permitted
  | synced _ f sequence _ linked =>
    have taken : (s.takeSync sequence).LineOk := h.of_frame (by simp) (by simp) (by simp) (by simp)
    exact taken.forwardCrane (by simpa using linked) f
  | demanded _ f _ linked => exact h.guardDemand linked f
  | sampled _ f =>
    have snooped : (s.snoop f).LineOk := h.of_frame (by simp) (by simp) (by simp) (by simp)
    exact snooped.forwardCab f
  | cabDeparts => exact h.cabDeparts
  | craneDeparts =>
    refine h.of_craneQueue rfl ?_ (fun _ empty => ?_) rfl rfl rfl
    · exact (List.length_drop ▸ Nat.sub_le _ _ : (s.line.craneQueue.drop 1).length ≤ _).trans h.1.2.1
    · change s.line.craneQueue.drop 1 = []
      rw [empty]
      rfl
  | replyJoins =>
    obtain ⟨⟨cab, crane, -⟩, address, reset⟩ := h
    exact .replyJoins cab crane address reset
  | lineReset => exact h.lineReset
  | powerOn => exact State.lineOk_of_reset rfl rfl (.inl ⟨rfl, rfl, rfl, rfl⟩)
  | imageReadEnd => exact h.of_eq (by simp) (by simp) (by simp) fun _ _ => by simp [State.endImageRead]
  | storeEnd => exact h.of_eq (by simp) (by simp) (by simp) fun _ _ => by simp [State.endStore_eq]
  | reloadEnd => exact h.of_eq (by simp) (by simp) (by simp) fun _ _ => rfl
  | watchExpiry | keyLost | attempted => exact h.of_frame (by simp) (by simp) (by simp) (by simp)
  | contentLost => exact h.of_eq rfl rfl rfl fun _ idle => idle
  | idle | latched | liftTicked | workTicked => exact h.of_frame rfl rfl rfl rfl

/-- Settles O52, by the effects of an event on the lengths and on the line. -/
theorem sizesAndLineKept : Obligations.SizesAndLineKept := by
  refine ⟨fun s t sizes ran => ?_, fun s t queues router reset ran => ?_⟩
  · exact step_keeps (H := State.SizesOk) (P := State.SizesOk) (fun _ h => h) (fun _ _ h => h) (fun _ _ h => h)
      (fun _ _ _ h effect => h.effect effect) (fun _ h => h) sizes ran
  · exact step_keeps (H := State.LineOk) (P := State.LineOk) (fun _ h => h) (fun _ _ h => h) (fun _ _ h => h)
      (fun _ _ _ h effect => h.effect effect) (fun _ h => h) ⟨queues, router, reset⟩ ran

end Sys2Proof.Machine

/-! PROOFS. The guard stays in a state the rules allow, and an image read keeps the reset values (spec/03, spec/06, R39 to R47,
R55, R62, R105, R130) -/

namespace Sys2Proof.Machine

/-! ### The guard's state under operations that leave it -/

/-- An operation that leaves the guard: valid tables stay valid, a tip position stays present, the key stays turned and a
discarded set stays discarded. -/
theorem State.GuardOk.of_guard_eq {s t : State} (h : s.GuardOk) (guard : t.guard = s.guard)
    (valid : s.banks.activeValid = true → t.banks.activeValid = true) (tip : s.tip.isSome → t.tip.isSome)
    (key : s.pins.skey = true → t.pins.skey = true) (openSet : s.openSet = none → t.openSet = none) : t.GuardOk := by
  obtain ⟨tables, watch, enforce, warmUp, zero, quiet, service, park⟩ := h
  unfold State.GuardOk
  rw [guard]
  exact ⟨fun g => valid (tables g), watch, fun g => ⟨(enforce g).1, tip (enforce g).2⟩, warmUp, zero, quiet,
    fun g => key (service g), fun g => openSet (park g)⟩

/-- An operation that attempts a pending commit leaves valid tables valid. -/
theorem SwapsOrKeeps.activeValid {s t : State} (h : SwapsOrKeeps s t) (valid : s.banks.activeValid = true) :
    t.banks.activeValid = true := by
  cases h with
  | keeps banks => rwa [banks]
  | swaps _ banks => rw [banks]

/-- An operation that keeps the open set or discards it leaves a discarded set discarded. -/
theorem KeepsSets.discarded {s t : State} (h : KeepsSets s t) (closed : s.openSet = none) : t.openSet = none := by
  obtain kept | gone := h.openSet
  · rwa [kept]
  · exact gone

/-- An operation on the banks and the sets that leaves guard, tip and pins. -/
theorem State.GuardOk.of_swap {s t : State} (h : s.GuardOk) (swap : SwapsOrKeeps s t) (sets : KeepsSets s t)
    (guard : t.guard = s.guard) (tip : t.tip = s.tip) (pins : t.pins = s.pins) : t.GuardOk :=
  h.of_guard_eq guard swap.activeValid (by rw [tip]; exact id) (by rw [pins]; exact id) sets.discarded

/-- Either reset leaves the guard in a state the rules allow (R64). -/
theorem State.guardOk_of_reset {s : State} (guard : s.guard = EnvelopeGuard.reset) : s.GuardOk := by
  unfold State.GuardOk
  rw [guard]
  exact ⟨nofun, nofun, nofun, (show 0 < warmUpLimit by decide), fun _ => rfl, fun _ => rfl, nofun, nofun⟩

/-! ### The operations that move the guard -/

/-- A state entered from another is one the rules allow, where HOLD and ENFORCE have valid tables, SERVICE the key, and
ENFORCE the watch running and a tip position (R37 to R47, R55). -/
theorem State.guardOk_of_changed {s : State} {g : GuardState} (other : s.guard.state ≠ g) (byExpiry : Bool)
    (valid : g = .hold ∨ g = .enforce → s.banks.activeValid = true) (key : g = .service → s.pins.skey = true)
    (enforce : g = .enforce → s.guard.watch.isSome ∧ s.tip.isSome) : (s.enterGuard g byExpiry).GuardOk := by
  have discarded : g = .park → (s.enterGuard g byExpiry).openSet = none := by
    rintro rfl
    rw [State.enterGuard_changed other]
    exact ((KeepsSets.liftGuardChange (s.entry .park byExpiry) .park).trans (.attemptSwap _)).discarded rfl
  refine ⟨fun g' => ?_, fun watch => ?_, fun g' => ?_, ?_, fun _ => ?_, fun _ => ?_, fun g' => ?_, fun g' => ?_⟩
  · exact (SwapsOrKeeps.enterGuard s g byExpiry).activeValid (valid (by simpa using g'))
  · rw [State.enterGuard_state]
    rw [State.enterGuard_guard other] at watch
    cases g with
    | hold => exact .inl rfl
    | enforce => exact .inr rfl
    | blocked | service | park => exact nomatch watch
  · rw [State.enterGuard_state] at g'
    subst g'
    rw [State.enterGuard_guard other, (State.enterGuard_frame _ _ _).2.2.2.1]
    exact enforce rfl
  · rw [State.enterGuard_guard other]
    exact (show 0 < warmUpLimit by decide)
  · rw [State.enterGuard_guard other]
    rfl
  · rw [State.enterGuard_guard other]
    rfl
  · rw [State.enterGuard_state] at g'
    simpa using key g'
  · exact discarded (by rwa [State.enterGuard_state] at g')

/-- A guard command enters a state that is not ENFORCE (R39, R44 to R49). -/
theorem State.GuardOk.enterGuard {s : State} (h : s.GuardOk) {g : GuardState} (byExpiry : Bool)
    (valid : g = .hold → s.banks.activeValid = true) (key : g = .service → s.pins.skey = true) (never : g ≠ .enforce) :
    (s.enterGuard g byExpiry).GuardOk := by
  by_cases same : s.guard.state = g
  · rwa [State.enterGuard_same same]
  · exact State.guardOk_of_changed same byExpiry (fun g' => valid (g'.resolve_right never)) key
      fun g' => absurd g' never

/-- A tip position restarts the watch and counts the warm-up; the fourth in a row enters ENFORCE with the watch running and the
tip position present (R40, R41, R55). -/
theorem State.GuardOk.guardTake {s : State} (h : s.GuardOk) (tip : s.tip.isSome) : s.guardTake.GuardOk := by
  obtain ⟨tables, watch, enforce, warmUp, zero, quiet, service, park⟩ := h
  rw [State.guardTake_eq]
  split_ifs with fourth
  · have changed : s.tipSeen.guard.state ≠ .enforce := by simp [fourth.1]
    refine State.guardOk_of_changed changed false (fun _ => tables (.inl fourth.1)) nofun fun _ => ⟨?_, tip⟩
    simp [EnvelopeGuard.tipSeen, fourth.1]
  · unfold State.GuardOk State.tipSeen EnvelopeGuard.tipSeen
    dsimp only
    split
    · next hold =>
      have few : s.guard.warmUp + 1 < warmUpLimit := Nat.lt_of_not_le fun many => fourth ⟨hold, many⟩
      exact ⟨fun _ => tables (.inl hold), fun _ => .inl hold, fun g => ⟨rfl, tip⟩, few, fun g => absurd hold g, quiet,
        service, park⟩
    · next enforcing =>
      exact ⟨tables, fun _ => .inr enforcing, fun _ => ⟨rfl, tip⟩, warmUp, zero, quiet, service, park⟩
    all_goals exact ⟨tables, watch, fun g => ⟨(enforce g).1, tip⟩, warmUp, zero, quiet, service, park⟩

/-- A complete set (R3). -/
theorem State.GuardOk.deliver {s : State} (h : s.GuardOk) (x : SampleSet) : (s.deliver x).GuardOk := by
  rw [State.deliver_eq]
  generalize geometryRecord s.banks.active s.lift.tare x = record
  have recorded : (s.takeRecord record).GuardOk :=
    h.of_guard_eq (by simp) (by simp) (by simp) (by simp) (by simp)
  have taken : (s.takeRecord record).guardTake.GuardOk := recorded.guardTake (by simp)
  exact taken.of_swap (.liftTake _ _) (.liftTake _ _) (by simp) (by simp) (by simp)

/-- A SAMPLE frame finds an open set outside PARK alone (R126, R130). -/
theorem State.GuardOk.snoop {s : State} (h : s.GuardOk) (f : Frame) : (s.snoop f).GuardOk := by
  have delivered : ∀ (u : State) (x : SampleSet), u.guard = s.guard → u.banks = s.banks → u.tip = s.tip → u.pins = s.pins
      → u.openSet = none → (u.deliver x).GuardOk := fun u x guard banks tip pins closed =>
    State.GuardOk.deliver (h.of_guard_eq guard (by rw [banks]; exact id) (by rw [tip]; exact id) (by rw [pins]; exact id)
      fun _ => closed) x
  unfold State.snoop
  split
  · next opened =>
    dsimp only
    split
    · split
      · exact delivered _ _ rfl rfl rfl rfl rfl
      · obtain ⟨tables, watch, enforce, warmUp, zero, quiet, service, park⟩ := h
        exact ⟨tables, watch, enforce, warmUp, zero, quiet, service, fun g => nomatch opened.symm.trans (park g)⟩
    · exact h
  · exact h

/-- A SYNC frame is taken outside PARK; a lost set ends the warm-up (R40, R125, R128). -/
theorem State.GuardOk.takeSync {s : State} (h : s.GuardOk) (parked : s.guard.state ≠ .park) (sequence : Byte) :
    (s.takeSync sequence).GuardOk := by
  obtain ⟨tables, watch, enforce, warmUp, zero, quiet, service, -⟩ := h
  unfold State.takeSync
  dsimp only
  split
  · unfold State.GuardOk State.reportLost EnvelopeGuard.lostSet
    dsimp only
    split
    · exact ⟨tables, watch, enforce, (show 0 < warmUpLimit by decide), fun _ => rfl, quiet, service, fun g => absurd g parked⟩
    · exact ⟨tables, watch, enforce, warmUp, zero, quiet, service, fun g => absurd g parked⟩
  · exact ⟨tables, watch, enforce, warmUp, zero, quiet, service, fun g => absurd g parked⟩

/-- In HOLD every demand is filtered to 0, which leaves the quiet flag true (R53, R60, R62). -/
theorem State.allStill_of_hold {s : State} (hold : s.guard.state = .hold) (demands : List Int) :
    s.allStill (s.filterDemands demands) = true := by
  simp only [State.allStill, List.all_eq_true, List.mem_iff_getElem, List.length_mapIdx, List.getElem_mapIdx]
  rintro b ⟨k, inside, rfl⟩
  simp [State.filterDemands, hold]

/-- A DEMAND frame writes the quiet flag, which stays true in HOLD (R60, R62). -/
theorem State.GuardOk.guardDemand {s : State} (h : s.GuardOk) (f : Frame) : (s.guardDemand f).GuardOk := by
  obtain same | ⟨state, out, filtered, effect⟩ := s.guardDemand_cases f
  · rwa [same]
  obtain ⟨tables, watch, enforce, warmUp, zero, quiet, service, park⟩ := h
  have judged : (s.demandJudged out).GuardOk ∧ (s.demandJudged out).guard.state = s.guard.state := by
    have kept : ∀ u : State, u.guard = s.guard ∨ u.guard = { s.guard with limitFlags := out.map (·.flag) } →
        u.banks = s.banks → u.tip = s.tip → u.pins = s.pins → u.openSet = s.openSet →
        u.GuardOk ∧ u.guard.state = s.guard.state := by
      rintro u (guard | guard) banks tip pins openSet <;>
      · unfold State.GuardOk
        rw [guard, banks, tip, pins, openSet]
        exact ⟨⟨tables, watch, enforce, warmUp, zero, quiet, service, park⟩, rfl⟩
    exact kept _ (State.demandJudged_guard out s) (by simp) (by simp) (by simp) (by simp)
  generalize s.demandJudged out = v at judged effect
  obtain ⟨⟨tables, watch, enforce, warmUp, zero, quiet, service, park⟩, kept⟩ := judged
  have joined : ∀ still : Bool, (s.guard.state = .hold → still = true) →
      (v.demandJoined (filteredFrame f out) still).GuardOk := by
    intro still stays
    refine ⟨tables, watch, enforce, warmUp, zero, fun g => ?_, service, park⟩
    have g : v.guard.state = .blocked ∨ v.guard.state = .hold ∨ v.guard.state = .park := g
    rw [kept] at g
    obtain blocked | hold | parked := g
    · simp [blocked] at state
    · exact stays hold
    · simp [parked] at state
  obtain dropped | ⟨-, waits | ⟨-, attempted⟩⟩ := effect
  · rw [dropped]
    exact ⟨tables, watch, enforce, warmUp, zero, quiet, service, park⟩
  · rw [waits]
    refine joined _ fun hold => ?_
    rw [filtered]
    exact State.allStill_of_hold hold _
  · rw [attempted]
    exact (joined true fun _ => rfl).of_swap (.attempt rfl rfl) (.attemptSwap _) (by simp) (by simp) (by simp)

/-- An expiry enters HOLD from ENFORCE, whose tables are valid, and stops the watch in HOLD (R42). -/
theorem State.GuardOk.watchExpiry {s : State} (h : s.GuardOk) : s.watchExpiry.GuardOk := by
  have h' := h
  obtain ⟨tables, watch, enforce, warmUp, zero, quiet, service, park⟩ := h'
  unfold State.watchExpiry
  split
  · next state =>
    have changed : s.watchExpires.guard.state ≠ .hold := by
      change s.guard.state ≠ _
      simp [state]
    exact State.guardOk_of_changed changed true (fun _ => tables (.inr state)) nofun nofun
  · next state =>
    have notEnforce : s.guard.state ≠ .enforce := by simp [state]
    exact ⟨tables, nofun, fun g => absurd g notEnforce, (show 0 < warmUpLimit by decide), fun _ => rfl, quiet, service, park⟩
  all_goals exact h

/-- The fall of the service key leaves SERVICE (R47). -/
theorem State.GuardOk.keyLost {s : State} (h : s.GuardOk) : s.keyLost.GuardOk := by
  have latched : ∀ u : State, u.GuardOk → (u.latch .serviceKeyLost).GuardOk := fun _ ok => ok
  obtain ⟨tables, watch, enforce, warmUp, zero, quiet, service, park⟩ := h
  unfold State.keyLost
  dsimp only
  split
  · next state =>
    refine latched _ (State.guardOk_of_changed ?_ false nofun nofun nofun)
    simp [state]
  · next other => exact ⟨tables, watch, enforce, warmUp, zero, quiet, fun g => absurd g other, park⟩

/-- The pins are sampled outside SERVICE alone (R47). -/
theorem State.GuardOk.samplePins {s : State} (h : s.GuardOk) (levels : Pins) : (s.samplePins levels).GuardOk := by
  obtain ⟨tables, watch, enforce, warmUp, zero, quiet, service, park⟩ := h
  refine ⟨tables, watch, enforce, warmUp, zero, quiet, fun g => ?_, park⟩
  have g : s.guard.state = .service := g
  simpa [State.samplePins, g] using service g

/-- Carrying out a command keeps the guard in a state the rules allow. -/
theorem State.GuardOk.judged {s t : State} (h : s.GuardOk) (judged : Judged s t) : t.GuardOk := by
  cases judged with
  | entered g valid key never => exact h.enterGuard false valid key never
  | swapped =>
    refine h.of_guard_eq (by simp) (fun _ => by simp) (by simp) (by simp) fun closed => ?_
    rw [State.swap_openSet, closed, openSetAfterSwap, ite_self]
  | forced on =>
    obtain ⟨tables, watch, enforce, warmUp, zero, quiet, service, park⟩ := h
    unfold State.setForceTest State.driveVen
    dsimp only
    split
    · exact ⟨tables, watch, enforce, warmUp, zero, quiet, service, park⟩
    · unfold State.GuardOk
      simp only [State.judge_frame]
      exact ⟨tables, watch, enforce, warmUp, zero, quiet, service, park⟩
  | emptied => exact h.of_guard_eq (by simp) (by simp) (by simp) (by simp) (by simp)
  | same | assigned | cleared | opened | written | pended | cancelled | stored | reloaded | selected | sought | fetched
    | pendedReset => exact h

/-- Every event keeps the guard in a state the rules allow. -/
theorem State.GuardOk.effect {s u : State} {i : Instr} (h : s.GuardOk) (reading : s.ReadingOk) (effect : Effect s i u) :
    u.GuardOk := by
  have framed : ∀ {v t : State}, v.GuardOk → t.guard = v.guard → t.banks = v.banks → t.tip = v.tip → t.pins = v.pins
      → t.openSet = v.openSet → t.GuardOk := fun ok guard banks tip pins openSet =>
    ok.of_guard_eq guard (by rw [banks]; exact id) (by rw [tip]; exact id) (by rw [pins]; exact id)
      (by rw [openSet]; exact id)
  have carried : ∀ (f : Frame) (w : Bool), (judgePayload w f.payload (s.windowStep f.payload)).state.GuardOk :=
    fun f w => (framed h (by simp) (by simp) (by simp) (by simp) (by simp) : (s.windowStep f.payload).GuardOk).judged
      (judgePayload_judged w f.payload s)
  cases effect with
  | taken _ f w =>
    rw [takeCommand_eq]
    exact framed (carried f w) (by simp) (by simp) (by simp) (by simp) (by simp)
  | broadcast _ f w => exact framed (carried f w) (by simp) (by simp) (by simp) (by simp) (by simp)
  | synced _ f sequence _ _ parked =>
    exact framed (h.takeSync parked sequence) (by simp) (by simp) (by simp) (by simp) (by simp)
  | demanded _ f => exact h.guardDemand f
  | sampled _ f => exact framed (h.snoop f) (by simp) (by simp) (by simp) (by simp) (by simp)
  | watchExpiry => exact h.watchExpiry
  | keyLost => exact h.keyLost
  | attempted => exact h.of_swap (.attempt rfl rfl) (.attemptSwap s) (by simp) (by simp) (by simp)
  | cabDeparts =>
    unfold State.cabDeparts
    split
    · exact h
    · split
      · exact State.guardOk_of_reset rfl
      · exact framed h (by simp) (by simp) (by simp) (by simp) (by simp)
  | lineReset => exact State.guardOk_of_reset rfl
  | powerOn => exact State.guardOk_of_reset rfl
  | imageReadEnd read =>
    obtain ⟨-, -, -, guard, -⟩ := reading read
    exact State.guardOk_of_reset (by simpa using guard)
  | storeEnd =>
    have read : ∀ image, (s.storeRead image).GuardOk := fun image =>
      framed h (by simp) (by simp) (by simp) (by simp) (by simp)
    rw [State.endStore_eq]
    exact (read _).of_swap (.attempt rfl rfl) (.attemptSwap _) (by simp) (by simp) (by simp)
  | reloadEnd =>
    unfold State.endReload
    dsimp only
    split <;> exact h
  | craneward | cabward | replyJoins => exact framed h (by simp) (by simp) (by simp) (by simp) (by simp)
  | idle | latched | craneDeparts | liftTicked | workTicked | contentLost => exact h

/-! ### The reset values during an image read (R105, R118, R132) -/

/-- Outside an image read the invariant asks nothing. -/
theorem State.readingOk_of_read {s : State} (read : s.store.reading = false) : s.ReadingOk :=
  fun reading => nomatch reading.symm.trans read

/-- No command ends or begins an image read. -/
theorem Judged.reading {s t : State} (judged : Judged s t) : t.store.reading = s.store.reading := by
  cases judged with
  | entered | forced | swapped | emptied => simp
  | same | assigned | cleared | opened | written | pended | cancelled | stored | reloaded | selected | sought | fetched
    | pendedReset => rfl

/-- During an image read an event that comes through at all leaves the reset values: no set is open, no commit is pending, the
watch and the lift timer are stopped, no reply waits (R105). -/
theorem State.ReadingOk.effect_reading {s u : State} {i : Instr} (h : s.ReadingOk) (reading : s.store.reading = true)
    (effect : Effect s i u) : u.ReadingOk := by
  obtain ⟨openSet, tip, capacity, guard, lift, selected, records, unit, commit, store⟩ := h reading
  have framed : ∀ {t : State}, t.openSet = s.openSet → t.tip = s.tip → t.capacity = s.capacity → t.guard = s.guard
      → t.lift = s.lift → t.tally.selected = s.tally.selected → t.tally.records = s.tally.records → t.unit = s.unit
      → t.banks.commit = s.banks.commit → t.store.state = s.store.state → t.ReadingOk := by
    intro t e1 e2 e3 e4 e5 e6 e7 e8 e9 e10 _
    rw [e1, e2, e3, e4, e5, e6, e7, e8, e9, e10]
    exact ⟨openSet, tip, capacity, guard, lift, selected, records, unit, commit, store⟩
  have begun : ∀ {t : State}, t.openSet = none → t.tip = none → t.capacity = CapacityMonitor.reset
      → t.guard = EnvelopeGuard.reset → t.lift = LiftUnit.reset t.lift.tare → t.tally.selected = 0 → t.tally.records = []
      → t.unit = CommandUnit.reset → t.banks.commit = .none → t.store.state = .idle → t.ReadingOk :=
    fun e1 e2 e3 e4 e5 e6 e7 e8 e9 e10 _ => ⟨e1, e2, e3, e4, e5, e6, e7, e8, e9, e10⟩
  have noWatch : s.guard.watch = none := by rw [guard]; rfl
  have blocked : s.guard.state ≠ .service := by rw [guard]; decide
  have noReply : s.unit.replySlot = none := by rw [unit]; rfl
  have noCommit : s.banks.commit ≠ .pending := by rw [commit]; decide
  cases effect with
  | taken _ _ _ read | broadcast _ _ _ read | synced _ _ _ read | demanded _ _ read =>
    exact nomatch reading.symm.trans read
  | storeEnd _ storing => exact nomatch store.symm.trans storing
  | reloadEnd _ reloading => exact nomatch store.symm.trans reloading
  | liftTicked _ runs =>
    rw [lift] at runs
    exact nomatch runs
  | sampled _ f =>
    have ignored : s.snoop f = s := by
      unfold State.snoop
      rw [openSet]
      cases pairCount f.payload <;> rfl
    rw [ignored]
    exact framed (by simp) (by simp) (by simp) (by simp) (by simp) (by simp) (by simp) (by simp) (by simp) (by simp)
  | cabDeparts =>
    have joins : ∀ u : State, u.unit = s.unit → u.replyJoins = u := by
      intro u same
      unfold State.replyJoins
      rw [same, noReply]
    unfold State.cabDeparts
    split
    · exact h
    · next _ rest _ =>
      split
      · exact begun rfl rfl rfl rfl rfl rfl rfl rfl rfl rfl
      · rw [joins { s with line := { s.line with cabQueue := rest } } rfl]
        exact framed rfl rfl rfl rfl rfl rfl rfl rfl rfl rfl
  | replyJoins =>
    have waits : s.replyJoins = s := by
      unfold State.replyJoins
      rw [noReply]
    rwa [waits]
  | watchExpiry =>
    have stopped : s.watchExpiry = s := by
      unfold State.watchExpiry
      rw [noWatch]
    rwa [stopped]
  | keyLost =>
    unfold State.keyLost
    rw [if_neg blocked]
    exact framed rfl rfl rfl rfl rfl rfl rfl rfl rfl rfl
  | attempted => rwa [State.attemptSwap_none noCommit]
  | lineReset => exact begun rfl rfl rfl rfl rfl rfl rfl rfl rfl rfl
  | powerOn => exact begun rfl rfl rfl rfl rfl rfl rfl rfl rfl rfl
  | imageReadEnd => exact State.readingOk_of_read (by simp [State.endImageRead])
  | craneward | cabward =>
    exact framed (by simp) (by simp) (by simp) (by simp) (by simp) (by simp) (by simp) (by simp) (by simp) (by simp)
  | idle | latched | craneDeparts | workTicked | contentLost => exact framed rfl rfl rfl rfl rfl rfl rfl rfl rfl rfl

/-- Every event keeps the reset values during an image read, and a reset brings them. -/
theorem State.ReadingOk.effect {s u : State} {i : Instr} (h : s.ReadingOk) (effect : Effect s i u) : u.ReadingOk := by
  cases reading : s.store.reading with
  | true => exact h.effect_reading reading effect
  | false =>
    have begun : ∀ {t : State}, t.openSet = none → t.tip = none → t.capacity = CapacityMonitor.reset
        → t.guard = EnvelopeGuard.reset → t.lift = LiftUnit.reset t.lift.tare → t.tally.selected = 0
        → t.tally.records = [] → t.unit = CommandUnit.reset → t.banks.commit = .none → t.store.state = .idle
        → t.ReadingOk := fun e1 e2 e3 e4 e5 e6 e7 e8 e9 e10 _ => ⟨e1, e2, e3, e4, e5, e6, e7, e8, e9, e10⟩
    have stays : ∀ {t : State}, t.store.reading = s.store.reading → t.ReadingOk :=
      fun same => State.readingOk_of_read (by rw [same, reading])
    have carried : ∀ (f : Frame) (w : Bool),
        (judgePayload w f.payload (s.windowStep f.payload)).state.store.reading = s.store.reading :=
      fun f w => (judgePayload_judged w f.payload s).reading.trans (by simp)
    cases effect with
    | taken _ f w =>
      rw [takeCommand_eq]
      exact stays (by simpa using carried f w)
    | broadcast _ f w => exact stays (by simpa using carried f w)
    | cabDeparts =>
      unfold State.cabDeparts
      split
      · exact h
      · split
        · exact begun rfl rfl rfl rfl rfl rfl rfl rfl rfl rfl
        · exact stays (by simp)
    | lineReset => exact begun rfl rfl rfl rfl rfl rfl rfl rfl rfl rfl
    | powerOn => exact begun rfl rfl rfl rfl rfl rfl rfl rfl rfl rfl
    | imageReadEnd read => exact nomatch read.symm.trans reading
    | storeEnd => exact stays (by simp [State.endStore_eq])
    | reloadEnd =>
      refine stays ?_
      unfold State.endReload
      dsimp only
      split <;> rfl
    | synced | demanded | sampled | watchExpiry | keyLost | attempted | craneward | cabward | replyJoins =>
      exact stays (by simp)
    | idle | latched | craneDeparts | liftTicked | workTicked | contentLost => exact stays rfl

/-- Settles O54, by the effects of an event; sampling the pins leaves the key turned in SERVICE. -/
theorem guardKept : Obligations.GuardKept := by
  intro s t guard reading ran
  exact step_keeps (H := fun s => s.GuardOk ∧ s.ReadingOk) (P := fun s => s.GuardOk ∧ s.ReadingOk) (fun _ h => h)
    (fun _ _ h => h) (fun _ levels h => ⟨h.1.samplePins levels, h.2⟩)
    (fun _ _ _ h effect => ⟨h.1.effect h.2 effect, h.2.effect effect⟩) (fun _ h => h) ⟨guard, reading⟩ ran

end Sys2Proof.Machine

/-! PROOFS. The Lift Unit agrees with its lift state, and the tallies stay in their ranges (spec/04, spec/05, R37, R67 to R71, R81,
R85, R88, R93, R95, R99) -/

namespace Sys2Proof.Machine

/-! ### The Lift Unit by itself -/

/-- The part of the lift invariant that speaks of the Lift Unit alone. -/
structure LiftUnit.Sound (u : LiftUnit) : Prop where
  /-- The context is absent exactly in EMPTY (R69). -/
  context : u.state = .empty ↔ u.context = none
  /-- The timer runs exactly outside EMPTY (R81). -/
  running : u.state = .empty ↔ u.timerRunning = false
  /-- The clear count is 0 outside GRIPPED (R70). -/
  clear : u.state ≠ .gripped → u.clearCount = 0
  /-- The weigh window is empty in EMPTY and GRIPPED (R71). -/
  window : u.state = .empty ∨ u.state = .gripped → u.window = []
  /-- During a lift the grapple is CLOSED and no tare search runs (R67, R85). -/
  lifting : u.state ≠ .empty → u.grapple = .closed ∧ u.search = none
  /-- During a tare search the grapple is OPEN (R85). -/
  search : u.search.isSome → u.grapple = .opened
  /-- The timer lies in its range (R81). -/
  timer : u.timer ≤ liftTimerLimit
  /-- The context has an assortment, and the times and weights of its lift state (R69). -/
  parts : ∀ c, u.context = some c →
    c.assortment < 12
      ∧ (c.pickTime.isSome ↔ u.state = .aloft ∨ u.state = .weighed)
      ∧ (c.weighing.isSome ↔ u.state = .weighed)
      ∧ ∀ p, c.pickTime = some p → p ≤ u.timer

/-- The lift invariant: no lift in BLOCKED, SERVICE and PARK, and a sound Lift Unit (R37). -/
theorem State.liftOk_iff (s : State) :
    s.LiftOk
      ↔ ((s.guard.state = .blocked ∨ s.guard.state = .service ∨ s.guard.state = .park) → s.lift.state = .empty)
        ∧ s.lift.Sound := by
  constructor
  · rintro ⟨guard, context, running, clear, window, lifting, search, timer, parts⟩
    exact ⟨guard, context, running, clear, window, lifting, search, timer, parts⟩
  · rintro ⟨guard, context, running, clear, window, lifting, search, timer, parts⟩
    exact ⟨guard, context, running, clear, window, lifting, search, timer, parts⟩

/-- The ended lift is sound, whatever it was (R79). -/
theorem LiftUnit.sound_ended {u : LiftUnit} (timer : u.timer ≤ liftTimerLimit)
    (search : u.search.isSome → u.grapple = .opened) : u.ended.Sound :=
  ⟨by simp [LiftUnit.ended], by simp [LiftUnit.ended], fun _ => rfl, fun _ => rfl, fun other => absurd rfl other, search,
    timer, nofun⟩

/-- The Lift Unit after a reset is sound (R87). -/
theorem LiftUnit.sound_reset (tare : Nat) : (LiftUnit.reset tare).Sound :=
  ⟨by simp [LiftUnit.reset], by simp [LiftUnit.reset], fun _ => rfl, fun _ => rfl, fun other => absurd rfl other, nofun,
    Nat.zero_le _, nofun⟩

namespace LiftUnit.Sound

variable {u : LiftUnit} (h : u.Sound)
include h

/-- Another tare search in the place of one, or none in the place of one. -/
theorem withSearch {x : Option TareSearch} (replaces : x.isSome → u.search.isSome) :
    LiftUnit.Sound { u with search := x } where
  context := h.context
  running := h.running
  clear := h.clear
  window := h.window
  lifting other := by
    obtain ⟨closed, none⟩ := h.lifting other
    refine ⟨closed, ?_⟩
    cases x with
    | none => rfl
    | some => simp [none] at replaces
  search some := h.search (replaces some)
  timer := h.timer
  parts := h.parts

/-- Marks in the context that leave assortment, pick time and weighing. -/
theorem withContext {f : LiftContext → LiftContext} (assortment : ∀ c, (f c).assortment = c.assortment)
    (pickTime : ∀ c, (f c).pickTime = c.pickTime) (weighing : ∀ c, (f c).weighing = c.weighing) :
    LiftUnit.Sound { u with context := u.context.map f } where
  context := h.context.trans (by simp)
  running := h.running
  clear := h.clear
  window := h.window
  lifting := h.lifting
  search := h.search
  timer := h.timer
  parts c marked := by
    obtain ⟨d, held, rfl⟩ := Option.map_eq_some_iff.mp marked
    rw [assortment, pickTime, weighing]
    exact h.parts d held

/-- Another tare value (R84). -/
theorem withTare (tare : Nat) : LiftUnit.Sound { u with tare := tare } :=
  ⟨h.context, h.running, h.clear, h.window, h.lifting, h.search, h.timer, h.parts⟩

/-- An emptied weigh window and a clear count set to 0 (R75, R82). -/
theorem emptied (clear : Nat) (zero : clear = 0 ∨ clear = u.clearCount) :
    LiftUnit.Sound { u with window := [], clearCount := clear } :=
  ⟨h.context, h.running, fun other => zero.elim id fun same => same.trans (h.clear other), fun _ => rfl, h.lifting,
    h.search, h.timer, h.parts⟩

/-- The end of a lift (R79). -/
theorem ended : u.ended.Sound := LiftUnit.sound_ended h.timer h.search

/-- Entry into HOLD marks the context, and empties the window or the clear count (R75). -/
theorem enterHold : u.enterHold.Sound := by
  have marked := h.withContext (f := fun c => { c with holdSeen := true }) (fun _ => rfl) (fun _ => rfl) (fun _ => rfl)
  unfold LiftUnit.enterHold
  dsimp only
  split
  · exact h
  · next gripped =>
    have cleared := marked.emptied 0 (.inl rfl)
    rwa [← h.window (.inr gripped)] at cleared
  · exact marked.emptied _ (.inr rfl)
  · exact marked.emptied _ (.inr rfl)

/-- A lost set empties the windows (R82). -/
theorem lostSet : u.lostSet.Sound :=
  (h.emptied _ (.inr rfl)).withSearch (by simp)

/-- The timer's tick (R81). -/
theorem tick : LiftUnit.Sound { u with timer := min (u.timer + 1) liftTimerLimit } where
  context := h.context
  running := h.running
  clear := h.clear
  window := h.window
  lifting := h.lifting
  search := h.search
  timer := Nat.min_le_right _ _
  parts c held := by
    obtain ⟨assortment, pickTime, weighing, before⟩ := h.parts c held
    refine ⟨assortment, pickTime, weighing, fun p picked => Nat.le_min.mpr ⟨?_, ?_⟩⟩
    · exact (before p picked).trans (Nat.le_succ _)
    · exact (before p picked).trans h.timer

end LiftUnit.Sound

/-! ### The Lift Unit's operations -/

/-- A search that fails is NONE, and one that is NONE stays so (R85). -/
@[simp] theorem State.failSearch_lift (s : State) : s.failSearch.lift = { s.lift with search := none } := by
  obtain ⟨none, same⟩ | ⟨-, failed⟩ := s.failSearch_cases
  · rw [same, ← none]
  · rw [failed]
    rfl

/-- A swap leaves the Lift Unit but for the window of a tare search (R84). -/
theorem State.attemptSwap_lift (s : State) :
    s.attemptSwap.lift = s.lift
      ∨ s.attemptSwap.lift
        = { s.lift with search := searchAfterSwap s.banks.active s.banks.staging s.lift.search } := by
  obtain same | ⟨-, -, swapped⟩ := s.attemptSwap_cases
  · exact .inl (by rw [same])
  · exact .inr (by rw [swapped, State.swap_lift])

/-- A swap ends no tare search and begins none (R84). -/
@[simp] theorem searchAfterSwap_isSome (old new : TableSet) (search : Option TareSearch) :
    (searchAfterSwap old new search).isSome = search.isSome := by
  unfold searchAfterSwap
  split <;> simp

/-- The swap keeps a sound Lift Unit. -/
theorem State.swap_sound {s : State} (h : s.lift.Sound) : s.swap.lift.Sound := by
  rw [State.swap_lift]
  exact h.withSearch (by simp)

/-- An attempt keeps a sound Lift Unit. -/
theorem State.attemptSwap_sound {s : State} (h : s.lift.Sound) : s.attemptSwap.lift.Sound := by
  obtain same | ⟨-, -, swapped⟩ := s.attemptSwap_cases
  · rwa [same]
  · rw [swapped]
    exact State.swap_sound h

/-- An attempt leaves the lift state. -/
@[simp] theorem State.attemptSwap_liftState (s : State) : s.attemptSwap.lift.state = s.lift.state := by
  obtain same | swapped := s.attemptSwap_lift
  · rw [same]
  · rw [swapped]

/-- A lift abandoned leaves a sound Lift Unit (R80). -/
theorem State.abandonLift_sound {s : State} (h : s.lift.Sound) : s.abandonLift.lift.Sound := by
  unfold State.abandonLift
  split
  · exact h
  all_goals simpa [State.endLift_lift] using h.ended

/-- The Lift Unit that is told the guard state stays sound (R37, R75, R80). -/
theorem State.liftGuardChange_sound {s : State} (h : s.lift.Sound) (g : GuardState) :
    (s.liftGuardChange g).lift.Sound := by
  cases g with
  | blocked => exact State.abandonLift_sound h
  | hold => exact h.enterHold
  | enforce => exact h
  | service | park =>
    rw [State.liftGuardChange, State.failSearch_lift]
    exact (State.abandonLift_sound h).withSearch (by simp)

/-- In BLOCKED, SERVICE and PARK the Lift Unit has no lift once it has been told the guard state (R37, R80). -/
theorem State.liftGuardChange_empty (s : State) {g : GuardState} (idle : g = .blocked ∨ g = .service ∨ g = .park) :
    (s.liftGuardChange g).lift.state = .empty := by
  obtain rfl | rfl | rfl := idle
  · exact s.abandonLift_state
  · simpa [State.liftGuardChange] using s.abandonLift_state
  · simpa [State.liftGuardChange] using s.abandonLift_state

/-- OVERLOAD_SEEN leaves a sound Lift Unit (R74). -/
theorem State.markOverload_sound {s : State} (h : s.lift.Sound) : s.markOverload.lift.Sound := by
  unfold State.markOverload
  split
  · exact h.withContext (fun _ => rfl) (fun _ => rfl) (fun _ => rfl)
  · exact h

/-- OVERLOAD_SEEN leaves the parts of the Lift Unit but the context (R74). -/
@[simp] theorem State.markOverload_lift (s : State) :
    s.markOverload.lift.state = s.lift.state ∧ s.markOverload.lift.window = s.lift.window
      ∧ s.markOverload.lift.clearCount = s.lift.clearCount ∧ s.markOverload.lift.timer = s.lift.timer
      ∧ s.markOverload.lift.grapple = s.lift.grapple ∧ s.markOverload.lift.search = s.lift.search
      ∧ s.markOverload.lift.tare = s.lift.tare := by
  unfold State.markOverload
  split <;> simp

/-- A grip event begins a lift of the selected assortment (R68). -/
theorem State.beginLift_sound {s : State} (h : s.lift.Sound) (selected : s.tally.selected < 12)
    (closed : s.lift.grapple = .closed) (search : s.lift.search = none) (t : TipPosition) :
    (s.beginLift t).lift.Sound where
  context := by simp [State.beginLift]
  running := by simp [State.beginLift]
  clear other := absurd rfl other
  window _ := rfl
  lifting _ := ⟨closed, search⟩
  search := h.search
  timer := Nat.zero_le _
  parts c begun := by
    cases begun
    exact ⟨selected, by simp [newContext, State.beginLift], by simp [newContext, State.beginLift], nofun⟩

/-- A position in GRIPPED (R70). -/
theorem State.clearStep_sound {s : State} (h : s.lift.Sound) (gripped : s.lift.state = .gripped) (t : TipPosition) :
    (s.clearStep t).lift.Sound := by
  have lift := h.lifting (by simp [gripped])
  have running : s.lift.timerRunning ≠ false := fun stopped => by simp [h.running.mpr stopped] at gripped
  have counted : ∀ n, LiftUnit.Sound { s.lift with clearCount := n } := fun n =>
    ⟨h.context, h.running, fun other => absurd gripped other, h.window, h.lifting, h.search, h.timer, h.parts⟩
  unfold State.clearStep
  split
  · split
    · refine ⟨?_, ?_, fun _ => rfl, fun _ => rfl, fun _ => lift, h.search, h.timer, fun c picked => ?_⟩
      · simpa [gripped] using h.context
      · simpa using running
      · obtain ⟨d, held, rfl⟩ := Option.map_eq_some_iff.mp picked
        obtain ⟨assortment, -, weighing, -⟩ := h.parts d held
        refine ⟨assortment, by simp, ?_, fun p same => ?_⟩
        · simpa [gripped] using weighing
        · cases same
          exact le_refl _
    · exact counted _
  · exact counted _

/-- A context that takes a weighing holds one, and keeps its assortment and pick time (R72, R73). -/
theorem takeWeighing_parts (w : Weighing) (c : LiftContext) :
    (takeWeighing w c).assortment = c.assortment ∧ (takeWeighing w c).pickTime = c.pickTime
      ∧ (takeWeighing w c).weighing.isSome := by
  unfold takeWeighing
  split
  · split <;> simp_all
  · simp

/-- A position in ALOFT or WEIGHED (R71 to R73). -/
theorem State.weighStep_sound {s : State} (h : s.lift.Sound) (aloft : s.lift.state = .aloft ∨ s.lift.state = .weighed)
    (t : TipPosition) : (s.weighStep t).lift.Sound := by
  have lifted : s.lift.state ≠ .empty ∧ s.lift.state ≠ .gripped := by
    obtain state | state := aloft <;> simp [state]
  obtain ⟨lifted, cleared⟩ := lifted
  unfold State.weighStep
  dsimp only
  split
  · refine ⟨?_, ?_, fun _ => h.clear cleared, fun _ => rfl, fun _ => h.lifting lifted, h.search, h.timer, fun c weighed => ?_⟩
    · simpa using mt h.context.mpr lifted
    · simpa using mt h.running.mpr lifted
    · obtain ⟨d, held, rfl⟩ := Option.map_eq_some_iff.mp weighed
      obtain ⟨assortment, pickTime, -, before⟩ := h.parts d held
      obtain ⟨sameAssortment, samePick, weighing⟩ := takeWeighing_parts ⟨_, _, t.reach⟩ d
      rw [sameAssortment, samePick]
      exact ⟨assortment, pickTime.trans (by simp [aloft]), by simpa using weighing, before⟩
  · exact ⟨h.context, h.running, h.clear, fun other => (other.elim lifted cleared).elim, h.lifting, h.search, h.timer,
      h.parts⟩

end Sys2Proof.Machine

/-! PROOFS. A tip position at the Lift Unit, and the Tally Unit's ranges (spec/04, spec/05, R65 to R67, R76, R84, R88 to R99) -/

namespace Sys2Proof.Machine

/-! ### A tip position at the Lift Unit (R65) -/

/-- What the grapple's step writes: the grapple state, and no tare search after a grip event (R66, R85). -/
theorem State.grappleStep_lift (s : State) (t : TipPosition) :
    (s.grappleStep t).lift
      = { s.lift with
          grapple := s.grappleNext t
          search := if grappleEvent s.lift.grapple (s.grappleNext t) = .grip then none else s.lift.search } := by
  unfold State.grappleStep
  dsimp only
  split <;> simp

/-- A grip event closes an open grapple (R66). -/
theorem grappleEvent_eq_grip {a b : GrappleState} : grappleEvent a b = .grip ↔ a = .opened ∧ b = .closed := by
  cases a <;> cases b <;> simp [grappleEvent]

/-- A release event opens a closed grapple (R66). -/
theorem grappleEvent_eq_release {a b : GrappleState} : grappleEvent a b = .release ↔ a = .closed ∧ b = .opened := by
  cases a <;> cases b <;> simp [grappleEvent]

/-- Without an event the grapple state stays (R66). -/
theorem grappleEvent_eq_steady {a b : GrappleState} : grappleEvent a b = .steady ↔ b = a := by
  cases a <;> cases b <;> simp [grappleEvent]

/-- The grapple's step keeps a sound Lift Unit, but for a release event during a lift (R66). -/
theorem State.grappleStep_sound {s : State} (h : s.lift.Sound) (t : TipPosition)
    (held : s.lift.state = .empty ∨ grappleEvent s.lift.grapple (s.grappleNext t) ≠ .release) :
    (s.grappleStep t).lift.Sound := by
  rw [State.grappleStep_lift]
  refine ⟨h.context, h.running, h.clear, h.window, fun lifting => ?_, fun seeking => ?_, h.timer, h.parts⟩
  · obtain ⟨closed, none⟩ := h.lifting lifting
    have steady : s.grappleNext t = .closed := by
      cases next : s.grappleNext t with
      | closed => rfl
      | opened => exact absurd (grappleEvent_eq_release.mpr ⟨closed, next⟩) (held.resolve_left lifting)
    exact ⟨steady, by simp [none]⟩
  · dsimp only at seeking ⊢
    split at seeking
    · exact nomatch seeking
    · next other =>
      have opened := h.search seeking
      cases next : s.grappleNext t with
      | opened => rfl
      | closed => exact absurd (grappleEvent_eq_grip.mpr ⟨opened, next⟩) other

/-- A release event during a lift ends it (R76, R79). -/
theorem State.grappleStep_ended {s : State} (h : s.lift.Sound) (t : TipPosition) (lifting : s.lift.state ≠ .empty) :
    (s.grappleStep t).markOverload.lift.ended.Sound := by
  obtain ⟨-, none⟩ := h.lifting lifting
  refine LiftUnit.sound_ended ?_ ?_
  · simpa [State.grappleStep_lift] using h.timer
  · simp [State.grappleStep_lift, none]

/-- The lift state machine after the grapple's step (R68 to R76). -/
theorem State.liftStep_sound {s : State} (h : s.lift.Sound) (selected : s.tally.selected < 12) (t : TipPosition) :
    ((s.grappleStep t).liftStep (grappleEvent s.lift.grapple (s.grappleNext t)) t).lift.Sound := by
  have stepped := State.grappleStep_sound h t
  have ended := State.grappleStep_ended h t
  have begins : grappleEvent s.lift.grapple (s.grappleNext t) = .grip →
      (s.grappleStep t).lift.grapple = .closed ∧ (s.grappleStep t).lift.search = none := fun grip =>
    ⟨by simp [State.grappleStep_lift, (grappleEvent_eq_grip.mp grip).2], by simp [State.grappleStep_lift, grip]⟩
  have state : (s.grappleStep t).lift.state = s.lift.state := by simp
  have tally : (s.grappleStep t).tally = s.tally := by simp
  generalize grappleEvent s.lift.grapple (s.grappleNext t) = e at stepped begins
  generalize s.grappleStep t = u at stepped ended begins state tally
  have released : s.lift.state ≠ .empty → (u.markOverload.releaseAloft t).lift.Sound := fun lifting =>
    State.attemptSwap_sound (by simpa using ended lifting)
  have cleared : e ≠ .release → s.lift.state = .gripped → (u.markOverload.clearStep t).lift.Sound := fun held gripped =>
    State.clearStep_sound (State.markOverload_sound (stepped (.inr held))) (by simp [state, gripped]) t
  have weighed : e ≠ .release → s.lift.state = .aloft ∨ s.lift.state = .weighed → (u.markOverload.weighStep t).lift.Sound :=
    fun held aloft => State.weighStep_sound (State.markOverload_sound (stepped (.inr held))) (by simpa [state] using aloft) t
  unfold State.liftStep
  rw [state]
  split
  case h_1 empty =>
    obtain ⟨closed, none⟩ := begins rfl
    exact State.markOverload_sound (State.beginLift_sound (stepped (.inl empty)) (by rwa [tally]) closed none t)
  case h_2 empty | h_3 empty => exact stepped (.inl empty)
  case h_4 gripped => exact State.attemptSwap_sound (ended (by simp [gripped]))
  case h_5 gripped | h_6 gripped => exact cleared (by simp) gripped
  case h_7 aloft | h_10 aloft => exact released (by simp [aloft])
  case h_8 aloft | h_9 aloft => exact weighed (by simp) (.inl aloft)
  case h_11 aloft | h_12 aloft => exact weighed (by simp) (.inr aloft)

/-- What the tare search writes: another tare value, and another search in the place of one (R84, R85). -/
theorem State.tareStep_lift (s : State) (t : TipPosition) :
    ∃ tare search, (s.tareStep t).lift = { s.lift with tare := tare, search := search }
      ∧ (search.isSome → s.lift.search.isSome) := by
  unfold State.tareStep
  dsimp only
  split
  · next none => exact ⟨s.lift.tare, s.lift.search, rfl, id⟩
  · next search seeking =>
    split_ifs
    · exact ⟨_, none, rfl, nofun⟩
    · exact ⟨s.lift.tare, none, State.failSearch_lift s, nofun⟩
    · exact ⟨s.lift.tare, none, State.failSearch_lift s, nofun⟩
    · exact ⟨s.lift.tare, some _, rfl, fun _ => by simp [seeking]⟩

/-- The tare search keeps a sound Lift Unit (R84, R85). -/
theorem State.tareStep_sound {s : State} (h : s.lift.Sound) (t : TipPosition) : (s.tareStep t).lift.Sound := by
  obtain ⟨tare, search, written, replaces⟩ := s.tareStep_lift t
  rw [written]
  exact (h.withTare tare).withSearch replaces

/-- A tip position keeps the lift invariant: outside ENFORCE a lift in progress finds the grapple held, in HOLD (R65, R67). -/
theorem State.LiftOk.liftTake {s : State} (h : s.LiftOk) (selected : s.tally.selected < 12) (t : TipPosition) :
    (s.liftTake t).LiftOk := by
  obtain ⟨guard, sound⟩ := s.liftOk_iff.mp h
  have held : s.guard.state ≠ .enforce →
      s.lift.state = .empty ∨ grappleEvent s.lift.grapple (s.grappleNext t) ≠ .release := by
    intro other
    by_cases empty : s.lift.state = .empty
    · exact .inl empty
    · have hold : s.guard.state = .hold := by
        cases state : s.guard.state with
        | hold => rfl
        | enforce => exact absurd state other
        | blocked | service | park => exact absurd (guard (by simp [state])) empty
      have steady : s.grappleNext t = s.lift.grapple := by simp [State.grappleNext, State.grappleHeld, hold, empty]
      exact .inr (by rw [grappleEvent_eq_steady.mpr steady]; decide)
  refine (State.liftOk_iff _).mpr ⟨fun idle => ?_, ?_⟩
  · have idle : s.guard.state = .blocked ∨ s.guard.state = .service ∨ s.guard.state = .park := by simpa using idle
    have other : s.guard.state ≠ .enforce := by
      obtain state | state | state := idle <;> simp [state]
    simpa [State.liftTake, other] using guard idle
  · unfold State.liftTake
    dsimp only
    split
    · exact State.tareStep_sound (State.liftStep_sound sound selected t) t
    · next other => exact State.tareStep_sound (State.grappleStep_sound sound t (held (by simpa using other))) t

/-! ### The Tally Unit (R88 to R99) -/

/-- The tally's ranges are of the Tally Unit alone. -/
theorem State.TallyOk.of_eq {s t : State} (h : s.TallyOk) (tally : t.tally = s.tally) : t.TallyOk := by
  unfold State.TallyOk at h ⊢
  rwa [tally]

/-- A tally lies in its ranges (R88). -/
def Tally.InRange (t : Tally) : Prop :=
  t.mass ≤ massLimit ∧ t.loaded ≤ countLimit ∧ t.unloaded ≤ countLimit ∧ t.unweighed ≤ countLimit

/-- A count that rises stays in its range (R88). -/
theorem addCount_le (n : Nat) : addCount n ≤ countLimit := Nat.min_le_right _ _

/-- A record booked as LOADED keeps the tally in range (R90). -/
theorem Tally.InRange.book_loaded {t : Tally} (h : t.InRange) (weight : Option Nat) : (t.book_loaded weight).InRange := by
  obtain ⟨mass, -, unloaded, unweighed⟩ := h
  cases weight with
  | some w => exact ⟨Nat.min_le_right _ _, addCount_le _, unloaded, unweighed⟩
  | none => exact ⟨mass, addCount_le _, unloaded, addCount_le _⟩

/-- A record booked as UNLOADED keeps the tally in range (R90, R91). -/
theorem Tally.InRange.book_unloaded {t : Tally} (h : t.InRange) (weight : Option Nat) : (t.book_unloaded weight).InRange := by
  obtain ⟨mass, loaded, -, unweighed⟩ := h
  cases weight with
  | some w => exact ⟨(Nat.sub_le _ _).trans mass, loaded, addCount_le _, unweighed⟩
  | none => exact ⟨mass, loaded, addCount_le _, addCount_le _⟩

/-- A booking keeps all tallies in range (R90). -/
theorem TallyUnit.book_inRange {u : TallyUnit} (h : ∀ t ∈ u.tallies, t.InRange) (r : LiftRecord) :
    ∀ t ∈ (u.book r).tallies, t.InRange := by
  have one : (u.tallyOf r.assortment).InRange := by
    unfold TallyUnit.tallyOf
    rw [List.getD_eq_getElem?_getD]
    cases found : u.tallies[r.assortment]? with
    | none => exact ⟨Nat.zero_le _, Nat.zero_le _, Nat.zero_le _, Nat.zero_le _⟩
    | some t => exact h t (List.mem_of_getElem? found)
  have set : ∀ t : Tally, t.InRange → ∀ t' ∈ u.tallies.set r.assortment t, t'.InRange := by
    intro t ok t' member
    obtain old | rfl := List.mem_or_eq_of_mem_set member
    · exact h t' old
    · exact ok
  unfold TallyUnit.book
  dsimp only
  split
  · exact set _ (one.book_loaded _)
  · exact set _ (one.book_unloaded _)
  all_goals exact h

/-- A record that joins the queue, or is dropped (R99). -/
theorem State.TallyOk.queueRecord {s : State} (h : s.TallyOk) (r : LiftRecord) : (s.queueRecord r).TallyOk := by
  obtain ⟨tallies, timer, records, selected⟩ := h
  unfold State.queueRecord
  split
  · next room =>
    refine ⟨tallies, timer, ?_, selected⟩
    simp only [List.length_append, List.length_singleton]
    exact room
  · exact ⟨tallies, timer, records, selected⟩

/-- The Tally Unit takes a record (R89). -/
theorem State.TallyOk.bookRecord {s : State} (h : s.TallyOk) (r : LiftRecord) : (s.bookRecord r).TallyOk := by
  obtain ⟨tallies, timer, records, selected⟩ := h
  have booked : ∀ u : TallyUnit, (∀ t ∈ u.tallies, t.InRange) → u.workTimer = s.tally.workTimer
      → u.records = s.tally.records → u.selected = s.tally.selected → ({ s with tally := u } : State).TallyOk :=
    fun u ok same1 same2 same3 => ⟨ok, by simpa [same1] using timer, by simpa [same2] using records,
      by simpa [same3] using selected⟩
  have kept : ∀ (u : TallyUnit) (r : LiftRecord), (u.book r).workTimer = u.workTimer ∧ (u.book r).records = u.records
      ∧ (u.book r).selected = u.selected := by
    intro u r
    unfold TallyUnit.book
    cases r.kind <;> simp
  unfold State.bookRecord
  dsimp only
  generalize ({ r with sequence := s.tally.sequence } : LiftRecord) = r'
  obtain ⟨timerKept, recordsKept, selectedKept⟩ := kept s.tally r'
  refine State.TallyOk.queueRecord ?_ _
  refine (booked { s.tally.book r' with sequence := s.tally.sequence + 1 }
    (TallyUnit.book_inRange tallies _) timerKept recordsKept selectedKept).of_eq ?_
  split <;> simp

/-- The end of a lift with its record (R79). -/
theorem State.TallyOk.endLiftRecorded {s : State} (h : s.TallyOk) (kind : LiftKind) (release : Option Cell) :
    (s.endLiftRecorded kind release).TallyOk := by
  have ended : s.endLift.TallyOk := h.of_eq (by simp)
  unfold State.endLiftRecorded
  split
  · exact ended.bookRecord _
  · exact ended

/-- A swap leaves a selection below 12 (R94). -/
theorem State.TallyOk.swap {s : State} (h : s.TallyOk) : s.swap.TallyOk := by
  obtain ⟨tallies, timer, records, selected⟩ := h
  unfold State.TallyOk
  rw [State.swap_tally]
  refine ⟨tallies, timer, records, ?_⟩
  unfold selectionAfterSwap
  split
  · exact selected
  · exact Nat.zero_lt_succ _

/-- An attempt (R144). -/
theorem State.TallyOk.attemptSwap {s : State} (h : s.TallyOk) : s.attemptSwap.TallyOk := by
  obtain same | ⟨-, -, swapped⟩ := s.attemptSwap_cases
  · rwa [same]
  · rw [swapped]
    exact h.swap

/-- The Lift Unit is told the guard state (R37, R80). -/
theorem State.TallyOk.liftGuardChange {s : State} (h : s.TallyOk) (g : GuardState) : (s.liftGuardChange g).TallyOk := by
  have abandoned : s.abandonLift.TallyOk := by
    unfold State.abandonLift
    split
    · exact h
    · exact h.of_eq (by simp)
    all_goals exact (h.endLiftRecorded .abandoned none).of_eq rfl
  cases g with
  | blocked => exact abandoned
  | hold => exact h.of_eq rfl
  | enforce => exact h
  | service | park => exact abandoned.of_eq (by simp [State.liftGuardChange])

/-- A tip position at the Lift Unit (R65). -/
theorem State.TallyOk.liftTake {s : State} (h : s.TallyOk) (t : TipPosition) : (s.liftTake t).TallyOk := by
  have stepped : ∀ (u : State) (e : GrappleEvent), u.TallyOk → (u.liftStep e t).TallyOk := by
    intro u e ok
    have marked : u.markOverload.TallyOk := ok.of_eq (by simp)
    have released : (u.markOverload.releaseAloft t).TallyOk := (marked.endLiftRecorded _ _).attemptSwap
    unfold State.liftStep
    split
    case h_4 => exact (marked.of_eq (t := u.markOverload.endLift) (by simp)).attemptSwap
    case h_7 | h_10 => exact released
    all_goals exact ok.of_eq (by simp)
  have gripped : (s.grappleStep t).TallyOk := h.of_eq (by simp)
  unfold State.liftTake
  dsimp only
  split
  · exact (stepped _ (grappleEvent s.lift.grapple (s.grappleNext t)) gripped).of_eq (by simp)
  · exact gripped.of_eq (by simp)

end Sys2Proof.Machine

/-! PROOFS. Every event keeps the Lift Unit's agreement and the tallies' ranges (spec/04, spec/05, R37, R67 to R71, R81, R85, R88,
R93, R95, R99) -/

namespace Sys2Proof.Machine

/-- The invariant of the Lift Unit and the Tally Unit. -/
def State.LiftTallyOk (s : State) : Prop := s.LiftOk ∧ s.TallyOk

namespace State.LiftTallyOk

variable {s : State} (h : s.LiftTallyOk)
include h

/-- An operation that leaves the guard state, the Lift Unit and the Tally Unit. -/
theorem of_eq {t : State} (guard : t.guard.state = s.guard.state) (lift : t.lift = s.lift) (tally : t.tally = s.tally) :
    t.LiftTallyOk := by
  obtain ⟨ok, ranges⟩ := h
  refine ⟨?_, ranges.of_eq tally⟩
  unfold State.LiftOk at ok ⊢
  rwa [guard, lift]

/-- A Lift Unit that stays sound and keeps the lift state. -/
theorem of_sound {t : State} (guard : t.guard.state = s.guard.state) (sound : t.lift.Sound)
    (state : t.lift.state = s.lift.state) (ranges : t.TallyOk) : t.LiftTallyOk := by
  refine ⟨(State.liftOk_iff t).mpr ⟨?_, sound⟩, ranges⟩
  rw [guard, state]
  exact (s.liftOk_iff.mp h.1).1

/-- The Lift Unit is sound. -/
theorem sound : s.lift.Sound := (s.liftOk_iff.mp h.1).2

/-- A swap. -/
theorem swap : s.swap.LiftTallyOk := h.of_sound (by simp) (State.swap_sound h.sound) (by simp) h.2.swap

/-- An attempt (R144). -/
theorem attemptSwap : s.attemptSwap.LiftTallyOk :=
  h.of_sound (by simp) (State.attemptSwap_sound h.sound) (by simp) h.2.attemptSwap

/-- The entry actions (R37, R75, R80). -/
theorem enterGuard (g : GuardState) (byExpiry : Bool) : (s.enterGuard g byExpiry).LiftTallyOk := by
  by_cases same : s.guard.state = g
  · rwa [State.enterGuard_same same]
  · rw [State.enterGuard_changed same]
    have entered : (s.entry g byExpiry).TallyOk := h.2.of_eq rfl
    refine State.LiftTallyOk.attemptSwap ⟨(State.liftOk_iff _).mpr ⟨fun idle => ?_, ?_⟩, entered.liftGuardChange g⟩
    · have state : ((s.entry g byExpiry).liftGuardChange g).guard.state = g := by
        rw [(State.liftGuardChange_frame _ _).2.2.2.2.2.2.1]
        rfl
      exact State.liftGuardChange_empty _ (by rwa [state] at idle)
    · exact State.liftGuardChange_sound (s := s.entry g byExpiry) h.sound g

/-- A tip position at the guard (R40). -/
theorem guardTake : s.guardTake.LiftTallyOk := by
  have seen : s.tipSeen.LiftTallyOk := h.of_eq (by simp) (by simp) (by simp)
  rw [State.guardTake_eq]
  split
  · exact seen.enterGuard _ _
  · exact seen

/-- A complete set (R3). -/
theorem deliver (x : SampleSet) : (s.deliver x).LiftTallyOk := by
  rw [State.deliver_eq]
  have recorded : ∀ t, (s.takeRecord t).LiftTallyOk := fun t => h.of_eq (by simp) (by simp) (by simp)
  obtain ⟨lift, tally⟩ := (recorded (geometryRecord s.banks.active s.lift.tare x)).guardTake
  exact ⟨lift.liftTake tally.2.2.2 _, tally.liftTake _⟩

/-- A SAMPLE frame (R126). -/
theorem snoop (f : Frame) : (s.snoop f).LiftTallyOk := by
  have delivered : ∀ (u : State) (x : SampleSet), u.guard = s.guard → u.lift = s.lift → u.tally = s.tally
      → (u.deliver x).LiftTallyOk := fun u x guard lift tally =>
    State.LiftTallyOk.deliver (h.of_eq (by rw [guard]) lift tally) x
  unfold State.snoop
  split
  · dsimp only
    split
    · split
      · exact delivered _ _ rfl rfl rfl
      · exact h
    · exact h
  · exact h

/-- A lost set empties windows (R82, R128). -/
theorem takeSync (sequence : Byte) : (s.takeSync sequence).LiftTallyOk := by
  have lost : s.reportLost.LiftTallyOk := by
    refine h.of_sound ?_ h.sound.lostSet rfl (h.2.of_eq rfl)
    unfold State.reportLost EnvelopeGuard.lostSet
    dsimp only
    split <;> rfl
  unfold State.takeSync
  dsimp only
  split
  · exact lost
  · exact h

/-- A DEMAND frame (R60, R144). -/
theorem guardDemand (f : Frame) : (s.guardDemand f).LiftTallyOk := by
  have judged : ∀ out, (s.demandJudged out).LiftTallyOk := fun out =>
    h.of_eq (by obtain same | written := State.demandJudged_guard out s <;> simp [*]) (by simp) (by simp)
  obtain same | ⟨-, out, -, dropped | ⟨-, waits | ⟨-, attempted⟩⟩⟩ := s.guardDemand_cases f
  · rwa [same]
  · rw [dropped]
    exact judged out
  · rw [waits]
    exact judged out
  · rw [attempted]
    have joined : ((s.demandJudged out).demandJoined (filteredFrame f out) true).LiftTallyOk := judged out
    exact joined.attemptSwap

/-- WATCH_EXPIRY (R42). -/
theorem watchExpiry : s.watchExpiry.LiftTallyOk := by
  have expired : s.watchExpires.LiftTallyOk := h
  unfold State.watchExpiry
  split
  · exact expired.enterGuard _ _
  all_goals exact h

/-- SKEY_DEASSERT (R47). -/
theorem keyLost : s.keyLost.LiftTallyOk := by
  have released : ({ s with pins := { s.pins with skey := false } } : State).LiftTallyOk := h
  unfold State.keyLost
  dsimp only
  split
  · exact released.enterGuard .blocked false
  · exact released

/-- The commands (R83, R93, R96, R100). -/
theorem judged {t : State} (judged : Judged s t) : t.LiftTallyOk := by
  have ⟨lift, tallies, timer, records, selected⟩ := h
  cases judged with
  | entered g => exact h.enterGuard g false
  | swapped => exact h.swap
  | forced on => exact h.of_eq (by unfold State.setForceTest; split <;> simp [State.driveVen]) (by simp) (by simp)
  | selected k index => exact ⟨lift, tallies, timer, records, index⟩
  | sought empty opened =>
    have sound := h.sound
    exact h.of_sound rfl ⟨sound.context, sound.running, sound.clear, sound.window, fun other => absurd empty other,
      fun _ => opened, sound.timer, sound.parts⟩ rfl h.2
  | fetched r rest queued =>
    refine ⟨lift, tallies, timer, ?_, selected⟩
    rw [queued] at records
    exact (Nat.le_succ _).trans records
  | emptied =>
    have zero : ({ s with tally := { s.tally with tallies := List.replicate 12 zeroTally, workTimer := 0 } } :
        State).LiftTallyOk :=
      ⟨lift, fun t member => by rw [List.eq_of_mem_replicate member]; exact ⟨by decide, by decide, by decide, by decide⟩,
        Nat.zero_le _, records, selected⟩
    exact zero.of_eq (by simp) (by simp) (by simp)
  | same | assigned | cleared | opened | written | pended | cancelled | stored | reloaded | pendedReset => exact h

/-- Every event. -/
theorem effect {u : State} {i : Instr} (effect : Effect s i u) : u.LiftTallyOk := by
  have ⟨lift, tallies, timer, records, selected⟩ := h
  have carried : ∀ (f : Frame) (w : Bool), (judgePayload w f.payload (s.windowStep f.payload)).state.LiftTallyOk :=
    fun f w => (h.of_eq (by simp) (by simp) (by simp) : (s.windowStep f.payload).LiftTallyOk).judged
      (judgePayload_judged w f.payload s)
  have reset : ∀ {t : State} (tare : Nat), t.guard = EnvelopeGuard.reset → t.lift = LiftUnit.reset tare → t.TallyOk
      → t.LiftTallyOk := fun tare guard unit ok => by
    refine ⟨(State.liftOk_iff _).mpr ⟨fun _ => by rw [unit]; rfl, ?_⟩, ok⟩
    rw [unit]
    exact LiftUnit.sound_reset tare
  cases effect with
  | taken _ f w =>
    rw [takeCommand_eq]
    exact (carried f w).of_eq (by simp) (by simp) (by simp)
  | broadcast _ f w => exact (carried f w).of_eq (by simp) (by simp) (by simp)
  | synced _ f sequence => exact (h.takeSync sequence).of_eq (by simp) (by simp) (by simp)
  | demanded _ f => exact h.guardDemand f
  | sampled _ f => exact (h.snoop f).of_eq (by simp) (by simp) (by simp)
  | watchExpiry => exact h.watchExpiry
  | keyLost => exact h.keyLost
  | attempted => exact h.attemptSwap
  | cabDeparts =>
    unfold State.cabDeparts
    split
    · exact h
    · split
      · exact reset _ rfl rfl ⟨tallies, timer, Nat.zero_le _, Nat.zero_lt_succ _⟩
      · exact h.of_eq (by simp) (by simp) (by simp)
  | lineReset => exact reset _ rfl rfl ⟨tallies, timer, Nat.zero_le _, Nat.zero_lt_succ _⟩
  | powerOn =>
    refine reset _ rfl rfl ⟨fun t member => ?_, Nat.zero_le _, Nat.zero_le _, Nat.zero_lt_succ _⟩
    rw [List.eq_of_mem_replicate member]
    exact ⟨by decide, by decide, by decide, by decide⟩
  | imageReadEnd =>
    exact h.of_sound (by simp) (by simpa [State.endImageRead] using h.sound.withTare _) (by simp [State.endImageRead])
      (h.2.of_eq (by simp))
  | storeEnd left =>
    rw [State.endStore_eq]
    exact (h.of_eq (by simp) (by simp) (by simp) : (s.storeRead _).LiftTallyOk).attemptSwap
  | reloadEnd => exact h.of_eq (by simp) (by simp) (by simp)
  | liftTicked => exact h.of_sound rfl h.sound.tick rfl h.2
  | workTicked => exact ⟨lift, tallies, Nat.min_le_right _ _, records, selected⟩
  | craneward | cabward | replyJoins => exact h.of_eq (by simp) (by simp) (by simp)
  | idle | latched | craneDeparts | contentLost => exact h

end State.LiftTallyOk

/-- Settles O55, by the effects of an event. -/
theorem liftAndTallyKept : Obligations.LiftAndTallyKept := by
  intro s t lift tally ran
  exact step_keeps (H := State.LiftTallyOk) (P := State.LiftTallyOk) (fun _ h => h) (fun _ _ h => h) (fun _ _ h => h)
    (fun _ _ _ h effect => h.effect effect) (fun _ h => h) ⟨lift, tally⟩ ran

end Sys2Proof.Machine

/-! PROOFS. Capacity at a reach, the level-machine derate, the effective capacity and the utilization (spec/02, R23 to R26) -/

namespace Sys2Proof.Machine

/-! ### The Capacity Curve (R23) -/

/-- Below 9375 mm the capacity is interpolated between two points of the curve, truncating toward zero (R23). -/
theorem capacityAt_below {b : TableSet} {reach : Nat} (below : reach < 9375) :
    capacityAt b reach
      = ((b.capacityPoint (reach / 625) : Int)
          + (((b.capacityPoint (reach / 625 + 1) : Int) - (b.capacityPoint (reach / 625) : Int))
              * ((reach - 625 * (reach / 625) : Nat) : Int)).tdiv 625).toNat :=
  if_pos below

/-- From 9375 mm on the capacity is the curve's last point (R23). -/
theorem capacityAt_above {b : TableSet} {reach : Nat} (above : 9375 ≤ reach) : capacityAt b reach = b.capacityPoint 15 :=
  if_neg (Nat.not_lt.mpr above)

/-- Truncation toward zero of a falling line between two points: it lies between them, and less than one above the line. -/
theorem tdiv_falling {p q d : Int} (falls : q ≤ p) (low : 0 ≤ d) (high : d < 625) :
    let c := p + ((q - p) * d).tdiv 625
    q ≤ c ∧ c ≤ p ∧ p * 625 + (q - p) * d ≤ c * 625 ∧ c * 625 < p * 625 + (q - p) * d + 625 := by
  have rise : (q - p) * d = -((p - q) * d) := by ring
  have pos : 0 ≤ (p - q) * d := mul_nonneg (by omega) low
  have small : (p - q) * d ≤ (p - q) * 624 := mul_le_mul_of_nonneg_left (by omega) (by omega)
  rw [rise, Int.neg_tdiv, Int.tdiv_eq_ediv_of_nonneg pos]
  generalize (p - q) * d = n at pos small
  omega

/-- The capacity between two points of which the second is not above the first (R23). -/
theorem capacityAt_falling {b : TableSet} {reach : Nat} (below : reach < 9375)
    (falls : b.capacityPoint (reach / 625 + 1) ≤ b.capacityPoint (reach / 625)) :
    let p : Int := b.capacityPoint (reach / 625)
    let q : Int := b.capacityPoint (reach / 625 + 1)
    let d : Int := (reach : Int) - 625 * ((reach / 625 : Nat) : Int)
    let c : Int := capacityAt b reach
    c = p + ((q - p) * d).tdiv 625 ∧ q ≤ c ∧ c ≤ p ∧ p * 625 + (q - p) * d ≤ c * 625
      ∧ c * 625 < p * 625 + (q - p) * d + 625 := by
  intro p q d c
  have offset : ((reach - 625 * (reach / 625) : Nat) : Int) = d := by
    have := Nat.mul_div_le reach 625
    change _ = (reach : Int) - 625 * ((reach / 625 : Nat) : Int)
    omega
  have range : 0 ≤ d ∧ d < 625 := by
    change 0 ≤ (reach : Int) - 625 * ((reach / 625 : Nat) : Int) ∧ (reach : Int) - 625 * ((reach / 625 : Nat) : Int) < 625
    omega
  have line := tdiv_falling (p := p) (q := q) (Int.ofNat_le.mpr falls) range.1 range.2
  have value : c = p + ((q - p) * d).tdiv 625 := by
    have nonneg : (0 : Int) ≤ q := Int.natCast_nonneg _
    change (capacityAt b reach : Int) = _
    rw [capacityAt_below below, offset, Int.toNat_of_nonneg (nonneg.trans line.1)]
  rw [value]
  exact ⟨rfl, line⟩

/-! ### The derates and the utilization (R24 to R26) -/

/-- The least of a value and a list is one of them, and not above any of them. -/
theorem foldl_min_spec (l : List Nat) (a : Nat) : l.foldl min a ∈ a :: l ∧ ∀ x ∈ a :: l, l.foldl min a ≤ x :=
  List.min?_eq_some_iff.mp List.min?_cons'

/-- The level-machine derate is the smallest of the twelve of band 0 (R24). -/
theorem levelDerate_spec (b : TableSet) :
    (∃ f, f < 12 ∧ levelDerate b = b.stability 0 f) ∧ ∀ f, f < 12 → levelDerate b ≤ b.stability 0 f := by
  obtain ⟨member, least⟩ := foldl_min_spec ((List.range 12).map (b.stability 0)) (b.stability 0 0)
  refine ⟨?_, fun f sector => least _ (List.mem_cons_of_mem _ (List.mem_map.mpr ⟨f, List.mem_range.mpr sector, rfl⟩))⟩
  obtain first | other := List.mem_cons.mp member
  · exact ⟨0, by decide, first⟩
  · obtain ⟨f, sector, same⟩ := List.mem_map.mp other
    exact ⟨f, List.mem_range.mp sector, same.symm⟩

/-- Outside the rings or the bands there is no effective capacity (R25). -/
theorem effectiveCapacity_beyond {ring band : Place} (outside : ring = .beyond ∨ band = .beyond) (b : TableSet)
    (reach : Nat) (derate f : Option Nat) : effectiveCapacity b reach ring band derate f = none := by
  obtain rfl | rfl := outside
  · rfl
  · cases ring <;> rfl

/-- The utilization stops at 2000 (R26). -/
theorem utilizationOf_le (ceff net : Nat) : utilizationOf ceff net ≤ 2000 := by
  unfold utilizationOf
  split_ifs
  · exact Nat.zero_le _
  · exact le_refl _
  · exact Nat.min_le_right _ _

/-- Settles O35: the interpolation on a falling piece of the curve, the smallest derate of band 0, and the cases of the
effective capacity and of the utilization. -/
theorem capacityAndUtilization : Obligations.CapacityAndUtilization := by
  refine ⟨fun b reach => capacityAt_falling, fun b reach => capacityAt_above, fun b reach ring band derate f => rfl,
    fun b reach ring band derate => ⟨levelDerate b, rfl, levelDerate_spec b⟩,
    fun b reach ring band derate f outside => effectiveCapacity_beyond outside b reach derate f,
    fun ceff net => ⟨utilizationOf_le ceff net, fun positive => ?_, rfl, fun loaded => ?_⟩⟩
  · exact if_neg (by omega)
  · simp [utilizationOf, Nat.ne_of_gt loaded]

end Sys2Proof.Machine

/-! PROOFS. The walk of a Zone Map row and the zone fields of a cell (spec/01, R13 to R16) -/

namespace Sys2Proof.Machine

/-- Of a walk that ends at one more entry, the last step is that entry's (R13). -/
theorem walkClass_succ (b : TableSet) (ring sector : Nat) :
    walkClass b ring (sector + 1) = walkStep b ring (walkClass b ring sector) (sector + 2) := by
  simp [walkClass, List.range_succ (n := sector + 1)]

/-- The walk to the first sector takes entry 1 (R13). -/
theorem walkClass_zero (b : TableSet) (ring : Nat) : walkClass b ring 0 = walkStep b ring (startClass b ring) 1 := rfl

/-- An entry that is not a CLASS entry leaves the current class (R13). -/
theorem walkStep_other {b : TableSet} {ring entry : Nat} (other : ∀ k, b.zone ring entry ≠ some (.cls k)) (current : Nat) :
    walkStep b ring current entry = current := by
  unfold walkStep
  split
  · next k cls => exact absurd cls (other k)
  · rfl

/-- A CLASS entry replaces the current class (R13). -/
theorem walkStep_class {b : TableSet} {ring entry k : Nat} (cls : b.zone ring entry = some (.cls k)) (current : Nat) :
    walkStep b ring current entry = k := by
  simp [walkStep, cls]

/-- Without a CLASS entry on the way the walk keeps the starting class (R13). -/
theorem walkClass_start {b : TableSet} {ring sector : Nat}
    (plain : ∀ e, 1 ≤ e → e ≤ sector + 1 → ∀ k, b.zone ring e ≠ some (.cls k)) :
    walkClass b ring sector = startClass b ring := by
  induction sector with
  | zero => exact walkStep_other (plain 1 (le_refl _) (le_refl _)) _
  | succ sector ih =>
    rw [walkClass_succ, walkStep_other (plain (sector + 2) (by omega) (by omega))]
    exact ih fun e low high => plain e low (by omega)

/-- The walk ends with the class of the last CLASS entry on the way (R13). -/
theorem walkClass_last {b : TableSet} {ring sector e k : Nat} (low : 1 ≤ e) (high : e ≤ sector + 1)
    (cls : b.zone ring e = some (.cls k))
    (last : ∀ e', e < e' → e' ≤ sector + 1 → ∀ k', b.zone ring e' ≠ some (.cls k')) :
    walkClass b ring sector = k := by
  induction sector with
  | zero =>
    obtain rfl : e = 1 := by omega
    exact walkStep_class cls _
  | succ sector ih =>
    rw [walkClass_succ]
    by_cases here : e = sector + 2
    · subst here
      exact walkStep_class cls _
    · rw [walkStep_other (last (sector + 2) (by omega) (le_refl _))]
      exact ih (by omega) fun e' after upTo => last e' after (by omega)

/-- Settles O34: the walk without a CLASS entry, the walk to the last CLASS entry, and the fields of a cell by the ring's
header. -/
theorem zoneWalkCarriesLastClass : Obligations.ZoneWalkCarriesLastClass := by
  intro b ring sector isOpen start header
  have starts : startClass b ring = start := by simp [startClass, header]
  have opens : ringOpen b ring = isOpen := by simp [ringOpen, header]
  refine ⟨fun plain => (walkClass_start plain).trans starts, fun e k low high cls last => walkClass_last low high cls last, ?_,
    rfl⟩
  rw [zoneOf, opens]
  cases isOpen with
  | false => rfl
  | true =>
    simp only [if_true, openZone, ZoneFields.mk.injEq, true_and, and_true]
    cases b.classRule (walkClass b ring sector) <;> rfl

end Sys2Proof.Machine

/-! PROOFS. The end of an image read, and the factory defaults (spec/08, spec/09, R86, R135, R136, R150) -/

namespace Sys2Proof.Machine

/-! ### The factory defaults (R136) -/

/-- Every ring of the factory defaults is open, with class 0 all around (R136). -/
theorem factoryDefaults_zone {ring : Nat} (row : ring < 5) :
    factoryDefaults.zone ring 0 = some (.header true 0)
      ∧ ∀ e, 1 ≤ e → e ≤ 12 → factoryDefaults.zone ring e = some .plain := by
  have all : ∀ ring < 5, factoryDefaults.zone ring 0 = some (.header true 0)
      ∧ ∀ e < 13, 1 ≤ e → factoryDefaults.zone ring e = some .plain := by decide +kernel
  obtain ⟨header, plain⟩ := all ring row
  exact ⟨header, fun e low high => plain e (Nat.lt_succ_of_le high) low⟩

/-- The classes of the factory defaults (R136). -/
theorem factoryDefaults_class {i : Nat} (index : i < 8) :
    factoryDefaults.classRule i = .openEntry ∧ factoryDefaults.classCap i = 1000 ∧ factoryDefaults.classBunk i = false
      ∧ factoryDefaults.classDerate i = 100 := by
  have all : ∀ i < 8, factoryDefaults.classRule i = .openEntry ∧ factoryDefaults.classCap i = 1000
      ∧ factoryDefaults.classBunk i = false ∧ factoryDefaults.classDerate i = 100 := by decide +kernel
  exact all i index

/-- The Stability Grid of the factory defaults (R136). -/
theorem factoryDefaults_stability {band f : Nat} (row : band < 6) (sector : f < 12) :
    factoryDefaults.stability band f = 100 := by
  have all : ∀ band < 6, ∀ f < 12, factoryDefaults.stability band f = 100 := by decide +kernel
  exact all band row f sector

/-- The Capacity Curve of the factory defaults (R136). -/
theorem factoryDefaults_capacity {i : Nat} (index : i < 16) : factoryDefaults.capacityPoint i = 0 := by
  have all : ∀ i < 16, factoryDefaults.capacityPoint i = 0 := by decide +kernel
  exact all i index

/-- The Assortments of the factory defaults (R136). -/
theorem factoryDefaults_assortment {i : Nat} (index : i < 12) :
    (factoryDefaults.assortmentEnabled i = true ↔ i = 0)
      ∧ (factoryDefaults.assortmentCode i).map BitVec.toNat = [48, 48 + i / 10, 48 + i % 10] := by
  have all : ∀ i < 12, (factoryDefaults.assortmentEnabled i = true ↔ i = 0)
      ∧ (factoryDefaults.assortmentCode i).map BitVec.toNat = [48, 48 + i / 10, 48 + i % 10] := by decide +kernel
  exact all i index

/-- The settings of the factory defaults (R135). -/
theorem factoryDefaults_settings :
    (List.range 20).map factoryDefaults.settingAt
      = [14000, 600, 300, 60, 3, 16, 15, 5, 10, 50, 900, 100, 250, 100, 4200, 3300, 320, 33554431, 900, 0] := by
  decide +kernel

/-- A setting of the factory defaults, by its place in the list of defaults (R135). -/
theorem factoryDefaults_setting (x : Setting) :
    factoryDefaults.setting x
      = [14000, 600, 300, 60, 3, 16, 15, 5, 10, 50, 900, 100, 250, 100, 4200, 3300, 320, 33554431, 900, 0].getD x.index 0 := by
  have index : x.index < 20 := by cases x <;> decide
  rw [← factoryDefaults_settings, List.getD_eq_getElem?_getD, List.getElem?_map, List.getElem?_range index]
  rfl

/-! ### The end of the image read (R150) -/

/-- What the end of an image read writes before its conditions are judged (R86, R150). -/
def State.imageLoaded (s : State) : State :=
  { s with
    banks := { s.banks with
      active := loadedTables s.store.image, staging := loadedTables s.store.image, activeValid := imageMatches s.store.image }
    store := { s.store with imageValid := imageMatches s.store.image, state := .idle, reading := false }
    lift := { s.lift with tare := (loadedTables s.store.image).setting .defaultTare } }

/-- The end of an image read judges IMAGE_INVALID and the bunk conditions on what it has loaded (R150, R166). -/
theorem State.endImageRead_eq (s : State) :
    s.endImageRead
      = ((if imageMatches s.store.image = true then s.imageLoaded else s.imageLoaded.latch .imageInvalid)).judgeBunk := by
  have judged : s.endImageRead = (s.imageLoaded.judge .imageInvalid (!imageMatches s.store.image)).judgeBunk := rfl
  rw [judged]
  cases imageMatches s.store.image <;> rfl

/-- Settles O51: the end of an image read by its equation, the factory defaults table by table. -/
theorem imageReadEndLoadsBanks : Obligations.ImageReadEndLoadsBanks := by
  refine ⟨fun s reading => ?_, factoryDefaults_length, fun ring => factoryDefaults_zone, fun i => factoryDefaults_class,
    fun band f => factoryDefaults_stability, fun i => factoryDefaults_capacity, ?_, ?_,
    fun i => factoryDefaults_assortment, factoryDefaults_settings⟩
  · have ran : exec .imageReadEnd s = finish s.endImageRead := by
      rw [show exec .imageReadEnd s = finish (if s.store.reading then s.endImageRead else s) from rfl, if_pos reading]
    rw [ran, State.endImageRead_eq, finish_next]
    rfl
  · have all : ∀ q < 8, factoryDefaults.channelSource q = 0 ∧ factoryDefaults.channelNumber q = 0
        ∧ factoryDefaults.channelZero q = 0 ∧ factoryDefaults.channelGain q = 1024 := by decide +kernel
    exact all
  · have all : ∀ i < 8, factoryDefaults.slotKind i = .unused ∧ factoryDefaults.slotPolarity i = 1
        ∧ factoryDefaults.slotLookStep i = 0 := by decide +kernel
    exact all

end Sys2Proof.Machine

/-! PROOFS. Pairs of a SAMPLE frame are calibrated into their slots, and a complete set makes a tip position (spec/01, spec/07,
R3, R121 to R126) -/

namespace Sys2Proof.Machine

/-! ### Calibration (R122, R123) -/

/-- The ranges of the eight quantities, SLEW first; SLEW is reduced into its range (R122, R123). -/
def slotRange (q : Nat) : Int × Int :=
  ([(0, 3599), (-300, 850), (-1750, 0), (0, 4000), (-2000, 20000), (0, 3000), (-600, 600), (-600, 600)]).getD q (0, 0)

/-- A calibrated value passes its range check when it lies in the range of its quantity (R122, R123). -/
theorem valueInRange_calibrate {q : Nat} (quantity : q < 8) (b : TableSet) (raw : Int) :
    valueInRange q (calibrate b q raw) = true
      ↔ ¬(calibrate b q raw < (slotRange q).1 ∨ (slotRange q).2 < calibrate b q raw) := by
  by_cases slew : q = 0
  · subst slew
    have reduced : calibrate b 0 raw = ((raw - b.channelZero 0) * (b.channelGain 0 : Int)).tdiv 1024 % 3600 := rfl
    simp only [valueInRange, slotRange, List.getD_cons_zero, reduced, true_iff]
    omega
  · generalize calibrate b q raw = v
    interval_cases q
    · exact absurd rfl slew
    all_goals simp [valueInRange, quantityRanges, slotRange]

/-! ### The matching entry (R121, R126) -/

/-- A pair matches an entry of the Channel Map (R121, R126). -/
def TableSet.Matches (b : TableSet) (src ch q : Nat) : Prop :=
  b.channelSource q ≠ 0 ∧ b.channelSource q = src ∧ b.channelNumber q = ch ∧ ch < 16

/-- A pair matches none of the eight entries. -/
theorem matchQuantity_eq_none_iff {b : TableSet} {src ch : Nat} :
    matchQuantity b src ch = none ↔ ∀ q, q < 8 → ¬b.Matches src ch q := by
  simp [matchQuantity, quantityCount, TableSet.Matches]

/-- A pair matches the first entry with its source and channel. -/
theorem matchQuantity_eq_some_iff {b : TableSet} {src ch q : Nat} :
    matchQuantity b src ch = some q ↔ q < 8 ∧ b.Matches src ch q ∧ ∀ j, j < q → ¬b.Matches src ch j := by
  simp only [matchQuantity, quantityCount, List.find?_range_eq_some, List.mem_range]
  simp only [TableSet.Matches, Bool.and_eq_true, bne_iff_ne, beq_iff_eq, decide_eq_true_eq, Bool.not_eq_true',
    ← Bool.not_eq_true, and_assoc]
  tauto

/-- A pair that matches no entry is passed by (R126). -/
theorem takePair_unmatched {b : TableSet} {src ch : Nat} (unmatched : ∀ q, q < 8 → ¬b.Matches src ch q) (raw : Int)
    (slots : List (Option Int)) : takePair b src slots (ch, raw) = slots := by
  simp [takePair, matchQuantity_eq_none_iff.mpr unmatched]

/-- A pair that matches an entry fills its slot, if the slot is empty and the value lies in its range (R123, R126). -/
theorem takePair_matched {b : TableSet} {src ch q : Nat} (quantity : q < 8) (matched : b.Matches src ch q)
    (first : ∀ j, j < q → ¬b.Matches src ch j) (raw : Int) (slots : List (Option Int)) :
    takePair b src slots (ch, raw)
      = if (slots.getD q none).isSome = true ∨ calibrate b q raw < (slotRange q).1 ∨ (slotRange q).2 < calibrate b q raw
        then slots else slots.set q (some (calibrate b q raw)) := by
  have found := matchQuantity_eq_some_iff.mpr ⟨quantity, matched, first⟩
  have range := valueInRange_calibrate quantity b raw
  simp only [takePair, found, range]
  by_cases filled : (slots.getD q none).isSome = true
  · rw [if_pos filled, if_pos (.inl filled)]
  · rw [if_neg filled]
    simp only [filled, Bool.false_eq_true, false_or, ite_not]

/-- Settles O29, by the matching entry and the range check. -/
theorem pairsCalibratedIntoSlots : Obligations.PairsCalibratedIntoSlots := by
  intro b src ch raw slots
  refine ⟨fun unmatched => takePair_unmatched unmatched raw slots, fun q quantity assigned source number low unique => ?_⟩
  have first : ∀ j, j < q → ¬b.Matches src ch j := fun j before ⟨_, source', number', _⟩ =>
    unique j before ⟨source', number'⟩
  exact takePair_matched quantity ⟨assigned, source, number, low⟩ first raw slots

/-! ### A complete set (R3) -/

/-- The new tip position and its overload filter, before its conditions are judged (R3, R27). -/
def State.tipWritten (t : TipPosition) (s : State) : State :=
  { s with
    capacity := overloadFilter s.banks.active (withCapacity s.banks.active t).utilization s.capacity
    tip := some (withCapacity s.banks.active t) }

/-- A new tip position is written, and its four conditions are judged on it (R19, R27, R32, R33). -/
theorem State.takeRecord_eq (t : TipPosition) (s : State) :
    s.takeRecord t
      = ((((s.tipWritten t).judge .outOfMap ((s.tipWritten t).cause .outOfMap)).judge .zoneViolation
          ((s.tipWritten t).cause .zoneViolation)).judge .overload ((s.tipWritten t).cause .overload)).judge .nearCapacity
          ((s.tipWritten t).cause .nearCapacity) := by
  have overload : ∀ u : State, (u.capacity.overload == .overload) = u.cause .overload := fun _ => rfl
  unfold State.takeRecord
  simp only [State.named_causes, overload, State.cause_judge]
  rfl

/-- Settles O30: a complete set goes through the Geometry Unit and the Capacity Monitor, and its record to the guard and the
Lift Unit. -/
theorem completeSetMakesTipPosition : Obligations.CompleteSetMakesTipPosition := by
  intro s x
  rw [State.deliver_eq, State.takeRecord_eq]
  rfl

end Sys2Proof.Machine

/-! PROOFS. A complete set in its ranges gives a tip position in its ranges (spec/01, spec/02, R4 to R17, R23 to R27) -/

namespace Sys2Proof.Machine

/-! ### The tables a tip position is measured with -/

/-- What the measurements ask of a Table Set: validated content and the factory defaults have it. -/
structure TableSet.Measurable (b : TableSet) : Prop where
  /-- A position can clear a lift (R70). -/
  clearFilter : 1 ≤ b.setting .clearFilter
  /-- A window has room (R71). -/
  weighWindow : 1 ≤ b.setting .weighWindow
  /-- The first boom section (R5). -/
  l1 : b.setting .l1 ≤ 6000
  /-- The second boom section (R5). -/
  l2 : b.setting .l2 ≤ 5000
  /-- The default tare value (R86). -/
  defaultTare : b.setting .defaultTare ≤ 2000
  /-- The starting classes (R12). -/
  start : ∀ ring, ring < 5 → startClass b ring ≤ 7
  /-- The classes on a ring (R12). -/
  classes : ∀ ring e k, ring < 5 → 1 ≤ e → e ≤ 12 → b.zone ring e = some (.cls k) → k ≤ 7
  /-- The class records (R15). -/
  records : ∀ i, i < 8 → 1 ≤ b.classDerate i ∧ b.classDerate i ≤ 100 ∧ b.classCap i ≤ 1000
    ∧ ¬(b.classRule i = .noEntry ∧ b.classBunk i = true)
  /-- The Stability Grid (R21). -/
  stability : ∀ band f, band < 6 → f < 12 → b.stability band f ≤ 100
  /-- The Capacity Curve (R22). -/
  capacity : ∀ i, i < 16 → b.capacityPoint i ≤ 20000
  /-- The Capacity Curve falls (R22). -/
  falls : ∀ i, i < 15 → b.capacityPoint (i + 1) ≤ b.capacityPoint i

/-- Validated content has it. -/
theorem TableSet.Measurable.of_valid {b : TableSet} (passes : b.Valid) : b.Measurable where
  clearFilter := (settings_of_valid passes).clearFilter.1
  weighWindow := by
    obtain small | middle | large := (settings_of_valid passes).weighWindow <;> omega
  l1 := (settings_of_valid passes).l1.2
  l2 := (settings_of_valid passes).l2.2
  defaultTare := (settings_of_valid passes).defaultTare
  start ring row := by
    obtain ⟨⟨isOpen, start, header, low⟩, -⟩ := zone_of_valid passes row
    simpa [startClass, header] using low
  classes ring e k row low high cls := by
    obtain plain | ⟨k', cls', small⟩ := (zone_of_valid passes row).2 e low high
    · simp [plain] at cls
    · simp only [cls', Option.some.injEq, ZoneEntry.cls.injEq] at cls
      omega
  records i index := class_of_valid passes index
  stability band f row sector := by
    have index : band * 12 + f < TableId.stabilityGrid.entries := by
      have entries : TableId.stabilityGrid.entries = 72 := rfl
      omega
    have holds : stabilityFails b (band * 12 + f) = false := entryFails_of_valid (t := .stabilityGrid) passes index
    rw [← Bool.not_eq_true, stabilityFails_iff] at holds
    change b.byte .stabilityGrid (band * 12 + f) 0 ≤ 100
    omega
  capacity i index := by
    have holds : capacityFails b i = false := entryFails_of_valid (t := .capacityCurve) passes index
    rw [← Bool.not_eq_true, capacityFails_iff] at holds
    omega
  falls i index := by
    have holds : capacityFails b (i + 1) = false :=
      entryFails_of_valid (t := .capacityCurve) passes (show i + 1 < 16 by omega)
    rw [← Bool.not_eq_true, capacityFails_iff] at holds
    simp only [Nat.add_sub_cancel] at holds
    omega

/-- The factory defaults have it (R136). -/
theorem factoryDefaults_measurable : factoryDefaults.Measurable where
  clearFilter := by rw [factoryDefaults_setting]; decide
  weighWindow := by rw [factoryDefaults_setting]; decide
  l1 := by rw [factoryDefaults_setting]; decide
  l2 := by rw [factoryDefaults_setting]; decide
  defaultTare := by rw [factoryDefaults_setting]; decide
  start ring row := by simp [startClass, (factoryDefaults_zone row).1]
  classes ring e k row low high cls := by simp [(factoryDefaults_zone row).2 e low high] at cls
  records i index := by
    obtain ⟨rule, cap, -, derate⟩ := factoryDefaults_class index
    simp [rule, cap, derate]
  stability band f row sector := (factoryDefaults_stability row sector).le
  capacity i index := by simp [factoryDefaults_capacity index]
  falls i index := by simp [factoryDefaults_capacity (i := i + 1) (by omega)]

/-! ### Zone, capacity and reach -/

/-- The walk ends with a class 0..7 (R12, R13). -/
theorem TableSet.Measurable.walkClass_le {b : TableSet} (h : b.Measurable) {ring sector : Nat} (row : ring < 5)
    (column : sector < 12) : walkClass b ring sector ≤ 7 := by
  have step : ∀ current e, current ≤ 7 → 1 ≤ e → e ≤ 12 → walkStep b ring current e ≤ 7 := by
    intro current e small low high
    unfold walkStep
    split
    · next k cls => exact h.classes ring e k row low high cls
    · exact small
  induction sector with
  | zero => exact step _ 1 (h.start ring row) (le_refl _) (by decide)
  | succ sector ih =>
    rw [walkClass_succ]
    exact step _ _ (ih (by omega)) (by omega) (by omega)

/-- Zone fields have the presence and the ranges that a tip position gives them (R14 to R17). -/
def ZoneFields.InRange (z : ZoneFields) (ring : Place) : Prop :=
  (z.cellClass = none ↔ ring = .beyond) ∧ (∀ k, z.cellClass = some k → k ≤ 7) ∧ z.cap ≤ 1000
    ∧ (z.rule = .noEntry → z.cap = 0 ∧ z.bunk = false) ∧ (z.derate = none ↔ ring = .beyond)
    ∧ ∀ d, z.derate = some d → 1 ≤ d ∧ d ≤ 100

/-- The zone fields of a ring and sector lie in their ranges. -/
theorem TableSet.Measurable.zone_inRange {b : TableSet} (h : b.Measurable) {ring : Place} {sector : Nat}
    (row : ∀ r, ring = .within r → r < 5) (column : sector < 12) : (zoneOf b ring sector).InRange ring := by
  cases ring with
  | beyond => exact ⟨by simp [zoneOf, beyondZone], by simp [zoneOf, beyondZone], by simp [zoneOf, beyondZone],
      fun _ => ⟨rfl, rfl⟩, by simp [zoneOf, beyondZone], by simp [zoneOf, beyondZone]⟩
  | within r =>
    have small := h.walkClass_le (row r rfl) column
    obtain ⟨low, high, cap, bunk⟩ := h.records (walkClass b r sector) (by omega)
    unfold zoneOf
    dsimp only
    generalize walkClass b r sector = k at small low high cap bunk
    split
    · refine ⟨by simp [openZone], by simpa [openZone] using small, ?_, fun rule => ?_, by simp [openZone],
        by simpa [openZone] using ⟨low, high⟩⟩
      · unfold openZone
        cases b.classRule k with
        | openEntry => exact cap
        | noEntry => exact Nat.zero_le _
      · have closed : b.classRule k = .noEntry := rule
        exact ⟨by simp [openZone, closed], by simpa [openZone, closed] using bunk⟩
    · exact ⟨by simp [closedZone], by simpa [closedZone] using small, Nat.zero_le _, fun _ => ⟨rfl, rfl⟩,
        by simp [closedZone], by simpa [closedZone] using ⟨low, high⟩⟩

/-- The capacity at a reach below 10000 mm (R22, R23). -/
theorem TableSet.Measurable.capacityAt_le {b : TableSet} (h : b.Measurable) (reach : Nat) : capacityAt b reach ≤ 20000 := by
  obtain below | above := Nat.lt_or_ge reach 9375
  · obtain ⟨-, -, high, -⟩ := capacityAt_falling below (h.falls (reach / 625) (by omega))
    have point := h.capacity (reach / 625) (by omega)
    omega
  · rw [capacityAt_above above]
    exact h.capacity 15 (by decide)

/-- The stability derate of a band inside the tables (R21, R24). -/
theorem TableSet.Measurable.derate_le {b : TableSet} (h : b.Measurable) {band : Nat} (row : band < 6) {f : Option Nat}
    (sector : ∀ k, f = some k → k < 12) : stabilityDerate b band f ≤ 100 := by
  cases f with
  | some f => exact h.stability band f row (sector f rfl)
  | none => exact ((levelDerate_spec b).2 0 (by decide)).trans (h.stability 0 0 (by decide) (by decide))

/-- The effective capacity lies below 20000 kg (R22, R25). -/
theorem TableSet.Measurable.effectiveCapacity_le {b : TableSet} (h : b.Measurable) {reach : Nat} {ring band : Place}
    {derate f : Option Nat} (row : ∀ n, band = .within n → n < 6) (percent : ∀ d, derate = some d → d ≤ 100)
    (sector : ∀ k, f = some k → k < 12) {c : Nat} (present : effectiveCapacity b reach ring band derate f = some c) :
    c ≤ 20000 := by
  unfold effectiveCapacity at present
  split at present
  · next ring n d =>
    have point := h.capacityAt_le reach
    have derated := Nat.mul_le_mul (Nat.mul_le_mul point (percent d rfl)) (h.derate_le (row n rfl) sector)
    obtain rfl := Option.some.inj present
    exact Nat.div_le_of_le_mul derated
  · exact nomatch present

/-- The effective capacity is absent outside the tables alone (R25). -/
theorem effectiveCapacity_eq_none_iff {b : TableSet} {reach : Nat} {ring band : Place} {derate f : Option Nat}
    (present : derate = none ↔ ring = .beyond) :
    effectiveCapacity b reach ring band derate f = none ↔ ring = .beyond ∨ band = .beyond := by
  cases ring with
  | beyond => simp [effectiveCapacity_beyond]
  | within r =>
    cases band with
    | beyond => simp [effectiveCapacity_beyond]
    | within n =>
      cases derate with
      | none => simp at present
      | some d => simp [effectiveCapacity]

/-- A cosine factor lies between −32768 and 32768 (R4). -/
theorem cosFactor_bounds (θ : Int) : -32768 ≤ cosFactor θ ∧ cosFactor θ ≤ 32768 := by
  obtain ⟨low, high⟩ := abs_lt.mp (cosFactor_nearest θ)
  have least := Real.neg_one_le_cos ((θ : ℝ) * Real.pi / 1800)
  have greatest := Real.cos_le_one ((θ : ℝ) * Real.pi / 1800)
  have below : ((-32769 : Int) : ℝ) < cosFactor θ := by
    push_cast
    linarith
  have above : (cosFactor θ : ℝ) < ((32769 : Int) : ℝ) := by
    push_cast
    linarith
  have below := Int.cast_lt.mp below
  have above := Int.cast_lt.mp above
  omega

/-- The reach is at most 15000 mm (R5). -/
theorem TableSet.Measurable.reachOf_le {b : TableSet} (h : b.Measurable) {a1 a2 ext : Int} (low : 0 ≤ ext)
    (high : ext ≤ 4000) : reachOf (b.setting .l1) (b.setting .l2) a1 a2 ext ≤ 15000 := by
  have l1 := h.l1
  have l2 := h.l2
  generalize b.setting .l1 = x at l1
  generalize b.setting .l2 = y at l2
  obtain ⟨-, main⟩ := cosFactor_bounds a1
  obtain ⟨-, jib⟩ := cosFactor_bounds (a1 + a2)
  have sum : reachSum x y a1 a2 ext ≤ 15000 * 32768 := by
    unfold reachSum
    have first : (x : Int) * cosFactor a1 ≤ x * 32768 := mul_le_mul_of_nonneg_left main (by omega)
    have second : ((y : Int) + ext) * cosFactor (a1 + a2) ≤ (y + ext) * 32768 :=
      mul_le_mul_of_nonneg_left jib (by omega)
    omega
  unfold reachOf
  dsimp only
  split <;> omega

/-! ### The record (R17) -/

/-- The values of a complete set lie in their ranges (R123, R127). -/
structure SampleSet.InRange (x : SampleSet) : Prop where
  slew : 0 ≤ x.slew ∧ x.slew ≤ 3599
  a1 : -300 ≤ x.a1 ∧ x.a1 ≤ 850
  a2 : -1750 ≤ x.a2 ∧ x.a2 ≤ 0
  ext : 0 ≤ x.ext ∧ x.ext ≤ 4000
  force : -2000 ≤ x.force ∧ x.force ≤ 20000
  grip : 0 ≤ x.grip ∧ x.grip ≤ 3000
  pitch : -600 ≤ x.pitch ∧ x.pitch ≤ 600
  roll : -600 ≤ x.roll ∧ x.roll ≤ 600

/-- The tilt is at most 849 (R8). -/
theorem SampleSet.InRange.tilt_le {x : SampleSet} (h : x.InRange) : tiltOf x.pitch x.roll ≤ 849 := by
  obtain ⟨p1, p2⟩ := h.pitch
  obtain ⟨r1, r2⟩ := h.roll
  obtain ⟨level, tilted⟩ := ringSectorTiltAndBand.2 x.pitch x.roll p1 p2 r1 r2
  by_cases flat : x.pitch = 0 ∧ x.roll = 0
  · have := level flat
    omega
  · have := (tilted flat).2.2.2
    omega

/-- A ring inside the Zone Map is one of five (R6). -/
theorem ringOf_lt {reach r : Nat} (inside : ringOf reach = .within r) : r < 5 := by
  unfold ringOf at inside
  split at inside
  · cases inside
    omega
  · exact nomatch inside

/-- A band inside the tables is one of six (R9). -/
theorem bandOf_lt {tilt n : Nat} (inside : bandOf tilt = .within n) : n < 6 := by
  unfold bandOf at inside
  split at inside
  · cases inside
    omega
  · exact nomatch inside

/-- The record of a complete set lies in its ranges, with the effective capacity and the utilization filled in (R17, R27). -/
theorem TableSet.Measurable.record_inRange {b : TableSet} (h : b.Measurable) {x : SampleSet} (set : x.InRange)
    (tare : Nat) : (withCapacity b (geometryRecord b tare x)).InRange := by
  have slew : x.slew.toNat ≤ 3599 := by have := set.slew; omega
  have sector : sectorOf x.slew.toNat < 12 := by unfold sectorOf; omega
  have fallSector : ∀ k, (geometryRecord b tare x).fallSector = some k → k < 12 := by
    intro k fall
    obtain ⟨az, -, rfl⟩ := Option.map_eq_some_iff.mp fall
    unfold fallSectorOf
    omega
  obtain ⟨cellClass, index, cap, rule, derate, percent⟩ :=
    h.zone_inRange (ring := (geometryRecord b tare x).ring) (fun r => ringOf_lt) sector
  have absent := effectiveCapacity_eq_none_iff (b := b) (reach := (geometryRecord b tare x).reach)
    (band := (geometryRecord b tare x).band) (f := (geometryRecord b tare x).fallSector) derate
  have azimuth : ∀ az, (geometryRecord b tare x).fallAzimuth = some az → az ≤ 3599 := by
    intro az fall
    change fallAzimuthOf _ _ _ = some az at fall
    unfold fallAzimuthOf at fall
    split at fall
    · cases fall
      exact directionOf_le _ _
    · exact nomatch fall
  refine ⟨slew, set.a1, set.a2, set.ext, h.reachOf_le set.ext.1 set.ext.2, rfl, rfl, cellClass, index, cap, rule, derate,
    percent, set.tilt_le, rfl, ?_, azimuth, rfl, set.force, ?_, set.grip, absent, fun c present => ?_, ?_, fun u used => ?_⟩
  · change fallAzimuthOf (tiltOf x.pitch x.roll) _ _ = none ↔ tiltOf x.pitch x.roll < 20
    simp [fallAzimuthOf]
  · change (x.force - (tare : Int)).toNat ≤ 20000
    have := set.force
    omega
  · exact h.effectiveCapacity_le (fun n => bandOf_lt) (fun d => fun some => (percent d some).2) fallSector present
  · exact Option.map_eq_none_iff
  · obtain ⟨c, -, rfl⟩ := Option.map_eq_some_iff.mp used
    exact utilizationOf_le _ _

end Sys2Proof.Machine

/-! PROOFS. What is measured stays in its ranges under the operations of the Sample Assembler, the Capacity Monitor and the Lift
Unit (spec/02, spec/04, spec/07, R28, R29, R68 to R86, R123 to R127) -/

namespace Sys2Proof.Machine

/-! ### The open set (R123, R126, R127) -/

/-- The values in the slots lie in the ranges of their quantities (R123). -/
def SlotsInRange (slots : List (Option Int)) : Prop := ∀ q v, slots[q]? = some (some v) → inQuantityRange q v

/-- The range of a quantity, by its two ends (R123). -/
theorem inQuantityRange_iff {q : Nat} (quantity : q < 8) (v : Int) :
    inQuantityRange q v ↔ ¬(v < (slotRange q).1 ∨ (slotRange q).2 < v) := by
  interval_cases q <;> simp [inQuantityRange, slotRange]

/-- A pair leaves the slots, or fills one with a value of its range (R126). -/
theorem takePair_cases (b : TableSet) (src : Nat) (slots : List (Option Int)) (pair : Nat × Int) :
    takePair b src slots pair = slots
      ∨ ∃ q v, inQuantityRange q v ∧ takePair b src slots pair = slots.set q (some v) := by
  obtain ⟨ch, raw⟩ := pair
  cases found : matchQuantity b src ch with
  | none => exact .inl (takePair_unmatched (matchQuantity_eq_none_iff.mp found) raw slots)
  | some q =>
    obtain ⟨quantity, matched, first⟩ := matchQuantity_eq_some_iff.mp found
    rw [takePair_matched quantity matched first]
    split
    · exact .inl rfl
    · next fits => exact .inr ⟨q, _, (inQuantityRange_iff quantity _).mpr fun out => fits (.inr out), rfl⟩

/-- The pairs of a frame keep the slots in their ranges (R126). -/
theorem SlotsInRange.takePairs {slots : List (Option Int)} (h : SlotsInRange slots) (b : TableSet) (src : Nat)
    (pairs : List (Nat × Int)) : SlotsInRange (takePairs b src pairs slots) := by
  induction pairs generalizing slots with
  | nil => exact h
  | cons pair rest ih =>
    unfold Sys2Proof.Machine.takePairs
    split
    · exact h
    · refine ih ?_
      obtain same | ⟨q, v, inside, filled⟩ := takePair_cases b src slots pair
      · rwa [same]
      · rw [filled]
        intro q' v' slot
        rw [List.getElem?_set] at slot
        split at slot
        · next here =>
          subst here
          split at slot
          · simp only [Option.some.injEq] at slot
            rwa [← slot]
          · exact nomatch slot
        · exact h q' v' slot

/-- A complete set has its values in their ranges (R123, R127). -/
theorem SlotsInRange.completeSet {slots : List (Option Int)} (h : SlotsInRange slots) : (completeSet slots).InRange := by
  have zero : ∀ q, q < 8 → inQuantityRange q 0 := by
    intro q quantity
    interval_cases q <;> simp [inQuantityRange]
  have value : ∀ q, q < 8 → inQuantityRange q ((slots.getD q none).getD 0) := by
    intro q quantity
    rw [List.getD_eq_getElem?_getD]
    cases slot : slots[q]? with
    | none => exact zero q quantity
    | some held =>
      cases held with
      | none => exact zero q quantity
      | some v => exact h q v slot
  exact ⟨value 0 (by decide), value 1 (by decide), value 2 (by decide), value 3 (by decide), value 4 (by decide),
    value 5 (by decide), value 6 (by decide), value 7 (by decide)⟩

/-! ### The overload filter (R28, R29) -/

/-- The counts of the overload filter lie in their ranges, and the one of the other state is 0 (R28, R29). -/
structure CapacityMonitor.Counts (m : CapacityMonitor) : Prop where
  overload : m.overloadCount ≤ 50
  release : m.releaseCount ≤ 50
  other : m.OtherCountZero

/-- The filter keeps its counts in their ranges (R28 to R30). -/
theorem CapacityMonitor.Counts.filter {m : CapacityMonitor} (h : m.Counts) (b : TableSet) (u : Option Nat) :
    (overloadFilter b u m).Counts := by
  have counted : ∀ n, countUp n ≤ 50 := fun n => Nat.min_le_right _ _
  cases u with
  | none => exact h
  | some u =>
    have other := filterStep_otherCountZero b u h.other
    change (filterStep b u m).Counts
    cases state : m.overload with
    | normal =>
      rw [filterStep_normal state] at other ⊢
      split_ifs at other ⊢
      · exact ⟨Nat.zero_le _, Nat.zero_le _, other⟩
      · exact ⟨counted _, h.release, other⟩
      · exact ⟨Nat.zero_le _, h.release, other⟩
    | overload =>
      rw [filterStep_overload state] at other ⊢
      split_ifs at other ⊢
      · exact ⟨Nat.zero_le _, Nat.zero_le _, other⟩
      · exact ⟨h.overload, counted _, other⟩
      · exact ⟨h.overload, Nat.zero_le _, other⟩

/-! ### The Lift Unit (R68 to R73, R84 to R86) -/

/-- The context holds values of their ranges (R68, R71 to R73). -/
def LiftContext.InRange (c : LiftContext) : Prop :=
  (∀ w, c.weighing = some w → w.InRange) ∧ c.gripCell.InRange ∧ ∀ n, c.band = .within n → n ≤ 5

/-- The Lift Unit's counts, windows and values lie in their ranges, with the tables `b` (R68 to R73, R84 to R86). -/
structure LiftUnit.Measured (b : TableSet) (u : LiftUnit) : Prop where
  /-- The clear count (R70). -/
  clear : u.clearCount < b.setting .clearFilter
  /-- The length of the weigh window (R71). -/
  window : u.window.length ≤ b.setting .weighWindow
  /-- The masses in the weigh window (R71). -/
  masses : ∀ m, m ∈ u.window → m ≤ 20000
  /-- The lift context (R68). -/
  context : ∀ c, u.context = some c → c.InRange
  /-- The tare value (R86). -/
  tare : u.tare ≤ 2000
  /-- The tare search (R84). -/
  search : ∀ w, u.search = some w →
    w.count < 64 ∧ w.window.length ≤ b.setting .weighWindow ∧ ∀ m, m ∈ w.window → -2000 ≤ m ∧ m ≤ 20000

/-- A lift at rest has no weigh window and no clear count (R70, R71). -/
def LiftUnit.Rests (u : LiftUnit) : Prop := u.state = .empty → u.clearCount = 0 ∧ u.window = []

/-- A sound Lift Unit rests in EMPTY. -/
theorem LiftUnit.Sound.rests {u : LiftUnit} (h : u.Sound) : u.Rests := fun empty =>
  ⟨h.clear (by simp [empty]), h.window (.inl empty)⟩

namespace LiftUnit.Measured

variable {b : TableSet} {u : LiftUnit} (h : u.Measured b)
include h

/-- No tare search. -/
theorem noSearch : LiftUnit.Measured b { u with search := none } :=
  ⟨h.clear, h.window, h.masses, h.context, h.tare, nofun⟩

/-- Another grapple state. -/
theorem withGrapple (g : GrappleState) : LiftUnit.Measured b { u with grapple := g } :=
  ⟨h.clear, h.window, h.masses, h.context, h.tare, h.search⟩

/-- Marks in the context that leave its ranges. -/
theorem withContext {f : LiftContext → LiftContext} (inRange : ∀ c, c.InRange → (f c).InRange) :
    LiftUnit.Measured b { u with context := u.context.map f } where
  clear := h.clear
  window := h.window
  masses := h.masses
  context c marked := by
    obtain ⟨d, held, rfl⟩ := Option.map_eq_some_iff.mp marked
    exact inRange d (h.context d held)
  tare := h.tare
  search := h.search

/-- An emptied weigh window and a clear count that does not rise (R75, R82). -/
theorem emptied {clear : Nat} (less : clear ≤ u.clearCount) :
    LiftUnit.Measured b { u with window := [], clearCount := clear } :=
  ⟨less.trans_lt h.clear, Nat.zero_le _, nofun, h.context, h.tare, h.search⟩

/-- The end of a lift (R79). -/
theorem ended : LiftUnit.Measured b u.ended :=
  ⟨(Nat.zero_le _).trans_lt h.clear, Nat.zero_le _, nofun, nofun, h.tare, h.search⟩

/-- Entry into HOLD (R75). -/
theorem enterHold : LiftUnit.Measured b u.enterHold := by
  have marked := h.withContext (f := fun c => { c with holdSeen := true }) (fun _ ok => ok)
  unfold LiftUnit.enterHold
  dsimp only
  split
  · exact h
  · exact ⟨(Nat.zero_le _).trans_lt h.clear, h.window, h.masses, marked.context, h.tare, h.search⟩
  · exact marked.emptied (le_refl _)
  · exact marked.emptied (le_refl _)

/-- A lost set (R82). -/
theorem lostSet : LiftUnit.Measured b u.lostSet where
  clear := h.clear
  window := Nat.zero_le _
  masses := nofun
  context := h.context
  tare := h.tare
  search w lost := by
    obtain ⟨w', seeking, rfl⟩ := Option.map_eq_some_iff.mp lost
    exact ⟨(h.search w' seeking).1, Nat.zero_le _, nofun⟩

/-- A swap at rest: the new tables have room for what is left, a tare window of the same length or none (R84). -/
theorem swap {new : TableSet} (measurable : new.Measurable) (rests : u.clearCount = 0 ∧ u.window = []) :
    LiftUnit.Measured new { u with search := searchAfterSwap b new u.search } where
  clear := by
    have := measurable.clearFilter
    change u.clearCount < _
    omega
  window := by simp [rests.2]
  masses := by simp [rests.2]
  context := h.context
  tare := h.tare
  search w after := by
    change searchAfterSwap b new u.search = some w at after
    unfold searchAfterSwap at after
    split at after
    · next same =>
      rw [← same]
      exact h.search w after
    · obtain ⟨w', seeking, rfl⟩ := Option.map_eq_some_iff.mp after
      exact ⟨(h.search w' seeking).1, Nat.zero_le _, nofun⟩

end LiftUnit.Measured

/-- The Lift Unit after a reset (R87). -/
theorem LiftUnit.measured_reset {b : TableSet} (measurable : b.Measurable) {tare : Nat} (low : tare ≤ 2000) :
    (LiftUnit.reset tare).Measured b :=
  ⟨measurable.clearFilter, Nat.zero_le _, nofun, nofun, low, nofun⟩

/-! ### Windows (R71, R72, R84) -/

/-- A window with room for one value keeps its length (R71, R84). -/
theorem appendWindow_length_le {α : Type} {w : Nat} {window : List α} (room : 1 ≤ w) (fits : window.length ≤ w) (x : α) :
    (appendWindow w window x).length ≤ w := by
  unfold appendWindow
  split
  · next short =>
    rw [List.length_append, List.length_singleton]
    exact short
  · rw [List.length_append, List.length_drop, List.length_singleton]
    omega

/-- A window holds the new value and values it held (R71, R84). -/
theorem mem_appendWindow {α : Type} {w : Nat} {window : List α} {x y : α} (member : y ∈ appendWindow w window x) :
    y ∈ window ∨ y = x := by
  unfold appendWindow at member
  split at member
  · simpa using member
  · obtain old | new := List.mem_append.mp member
    · exact .inl (List.mem_of_mem_drop old)
    · exact .inr (List.mem_singleton.mp new)

/-- The mean of masses of their range lies in it (R72). -/
theorem netMean_le {window : List Nat} (masses : ∀ m, m ∈ window → m ≤ 20000) : netMean window ≤ 20000 := by
  have sum : window.sum ≤ window.length * 20000 := by
    simpa using List.sum_le_card_nsmul window 20000 masses
  exact Nat.div_le_of_le_mul sum

/-- The spread of masses of their range lies in it (R72). -/
theorem netSpread_le {window : List Nat} (nonempty : window ≠ []) (masses : ∀ m, m ∈ window → m ≤ 20000) :
    netSpread window ≤ 20000 := by
  obtain ⟨lo, hi, low, high, -, spread⟩ :=
    spreadOf_spec (window := window.map Int.ofNat) (by simpa using nonempty)
  obtain ⟨l, least, rfl⟩ := List.mem_map.mp low
  obtain ⟨g, greatest, rfl⟩ := List.mem_map.mp high
  have bound := masses g greatest
  unfold netSpread
  rw [spread]
  simp only [Int.ofNat_eq_natCast]
  omega

/-- A context that takes a weighing of its range stays in range (R72, R73). -/
theorem LiftContext.InRange.takeWeighing {c : LiftContext} (h : c.InRange) {w : Weighing} (new : w.InRange) :
    (takeWeighing w c).InRange := by
  obtain ⟨held, cell, band⟩ := h
  have taken : ∀ w', some w = some w' → w'.InRange := by
    rintro w' ⟨⟩
    exact new
  unfold Sys2Proof.Machine.takeWeighing
  split
  · split
    · exact ⟨taken, cell, band⟩
    · exact ⟨held, cell, band⟩
  · exact ⟨taken, cell, band⟩

/-! ### The Lift Unit's operations on a tip position (R65 to R76, R84) -/

/-- The cell of a tip position in its ranges (R68, R76). -/
theorem TipPosition.InRange.cell {t : TipPosition} (h : t.InRange) : (cellOf t).InRange := by
  obtain ⟨slew, -, -, -, -, ring, sector, -⟩ := h
  intro r k cell
  unfold cellOf at cell
  split at cell
  · next n inside =>
    rw [ring] at inside
    obtain ⟨rfl, rfl⟩ := Cell.at_.inj cell
    have := ringOf_lt inside
    refine ⟨by omega, ?_⟩
    rw [sector, sectorOf]
    omega
  · exact nomatch cell

/-- What the Lift Unit reads of a tip position lies in its range (R17). -/
theorem TipPosition.InRange.measures {t : TipPosition} (h : t.InRange) :
    t.reach ≤ 15000 ∧ t.net ≤ 20000 ∧ (-2000 ≤ t.gross ∧ t.gross ≤ 20000) ∧ ∀ n, t.band = .within n → n ≤ 5 := by
  obtain ⟨-, -, -, -, reach, -, -, -, -, -, -, -, -, -, band, -, -, -, gross, net, -⟩ := h
  refine ⟨reach, net, gross, fun n inside => ?_⟩
  rw [band] at inside
  exact Nat.le_of_lt_succ (bandOf_lt inside)

/-- A grip event (R68). -/
theorem State.beginLift_measured {s : State} (h : s.lift.Measured s.banks.active) {t : TipPosition} (tip : t.InRange) :
    (s.beginLift t).lift.Measured s.banks.active where
  clear := (Nat.zero_le _).trans_lt h.clear
  window := Nat.zero_le _
  masses := nofun
  context c begun := by
    cases begun
    exact ⟨nofun, tip.cell, tip.measures.2.2.2⟩
  tare := h.tare
  search := h.search

/-- OVERLOAD_SEEN (R74). -/
theorem State.markOverload_measured {s : State} {b : TableSet} (h : s.lift.Measured b) : s.markOverload.lift.Measured b := by
  unfold State.markOverload
  split
  · exact h.withContext fun _ ok => ok
  · exact h

/-- A position in GRIPPED (R70). -/
theorem State.clearStep_measured {s : State} (h : s.lift.Measured s.banks.active) (t : TipPosition) :
    (s.clearStep t).lift.Measured s.banks.active := by
  have counted : ∀ n, n < s.banks.active.setting .clearFilter →
      LiftUnit.Measured s.banks.active { s.lift with clearCount := n } := fun n less =>
    ⟨less, h.window, h.masses, h.context, h.tare, h.search⟩
  have below := h.clear
  unfold State.clearStep
  split
  · split
    · exact ⟨(Nat.zero_le _).trans_lt below, Nat.zero_le _, nofun,
        (h.withContext (f := fun c => { c with pickTime := some s.lift.timer }) fun _ ok => ok).context, h.tare, h.search⟩
    · next more => exact counted _ (by omega)
  · exact counted _ (by omega)

/-- A position in ALOFT or WEIGHED (R71 to R73). -/
theorem State.weighStep_measured {s : State} (h : s.lift.Measured s.banks.active) (measurable : s.banks.active.Measurable)
    {t : TipPosition} (tip : t.InRange) : (s.weighStep t).lift.Measured s.banks.active := by
  obtain ⟨reach, net, -, -⟩ := tip.measures
  have length := appendWindow_length_le measurable.weighWindow h.window t.net
  have nonempty := appendWindow_ne_nil (s.banks.active.setting .weighWindow) s.lift.window t.net
  have masses : ∀ m, m ∈ appendWindow (s.banks.active.setting .weighWindow) s.lift.window t.net → m ≤ 20000 := by
    intro m member
    obtain old | rfl := mem_appendWindow member
    · exact h.masses m old
    · exact net
  unfold State.weighStep
  dsimp only
  split
  · have weighed : Weighing.InRange ⟨_, _, t.reach⟩ := ⟨netMean_le masses, netSpread_le nonempty masses, reach⟩
    exact ⟨h.clear, Nat.zero_le _, nofun, (h.withContext fun _ ok => ok.takeWeighing weighed).context, h.tare, h.search⟩
  · exact ⟨h.clear, length, masses, h.context, h.tare, h.search⟩

/-- The tare search (R84, R85). -/
theorem State.tareStep_measured {s : State} (h : s.lift.Measured s.banks.active) (measurable : s.banks.active.Measurable)
    {t : TipPosition} (tip : t.InRange) : (s.tareStep t).lift.Measured s.banks.active := by
  obtain ⟨-, -, gross, -⟩ := tip.measures
  cases seeking : s.lift.search with
  | none => rwa [State.tareStep_none seeking]
  | some search =>
    obtain ⟨-, room, masses⟩ := h.search search seeking
    have length := appendWindow_length_le measurable.weighWindow room t.gross
    rw [State.tareStep_some seeking]
    split_ifs with steady mean last
    · exact ⟨h.clear, h.window, h.masses, h.context, Int.toNat_le.mpr mean.2, nofun⟩
    · exact h.noSearch
    · exact h.noSearch
    · refine ⟨h.clear, h.window, h.masses, h.context, h.tare, fun w more => ?_⟩
      cases more
      refine ⟨Nat.lt_of_not_le last, length, fun m member => ?_⟩
      obtain old | rfl := mem_appendWindow member
      · exact masses m old
      · exact gross

end Sys2Proof.Machine

/-! PROOFS. Every event keeps what is measured in its ranges (spec/01 to spec/05, spec/07, R17, R28, R29, R68 to R86, R123) -/

namespace Sys2Proof.Machine

/-! ### The invariant, part by part -/

/-- What is measured lies in its ranges, and the tables it is measured with have theirs. -/
structure State.Measuring (s : State) : Prop where
  /-- The slots of the open set (R123). -/
  slots : ∀ o, s.openSet = some o → SlotsInRange o.slots
  /-- The latest tip position (R17). -/
  tip : ∀ t, s.tip = some t → t.InRange
  /-- The overload filter (R28, R29). -/
  counts : s.capacity.Counts
  /-- The Lift Unit (R68 to R86). -/
  lift : s.lift.Measured s.banks.active
  /-- The queued records (R80). -/
  records : ∀ r, r ∈ s.tally.records → r.InRange
  /-- The active bank. -/
  active : s.banks.active.Measurable
  /-- Staging, where a commit is pending. -/
  staging : s.banks.commit = .pending → s.banks.staging.Measurable

/-- The invariant with measurable tables. -/
theorem State.measuring_iff (s : State) :
    s.Measuring
      ↔ s.MeasuredOk ∧ s.banks.active.Measurable ∧ (s.banks.commit = .pending → s.banks.staging.Measurable) := by
  constructor
  · rintro ⟨slots, tip, ⟨overload, release, normal, overloaded⟩, ⟨clear, window, masses, context, tare, search⟩, records, active,
      staging⟩
    exact ⟨⟨slots, tip, overload, release, normal, overloaded, clear, window, masses, context, records, tare, search⟩, active,
      staging⟩
  · rintro ⟨⟨slots, tip, overload, release, normal, overloaded, clear, window, masses, context, records, tare, search⟩, active,
      staging⟩
    exact ⟨slots, tip, ⟨overload, release, normal, overloaded⟩, ⟨clear, window, masses, context, tare, search⟩, records, active,
      staging⟩

/-- A Lift Unit whose lift can be recorded: its times and its assortment lie in their ranges (R80, R81). -/
def LiftUnit.Recordable (u : LiftUnit) : Prop :=
  u.timer ≤ liftTimerLimit
    ∧ ∀ c, u.context = some c → c.assortment < 12 ∧ ∀ p, c.pickTime = some p → p ≤ u.timer

/-- A sound Lift Unit has a lift that can be recorded. -/
theorem LiftUnit.Sound.recordable {u : LiftUnit} (h : u.Sound) : u.Recordable :=
  ⟨h.timer, fun c held => ⟨(h.parts c held).1, (h.parts c held).2.2.2⟩⟩

/-- A record built from a context of its ranges lies in its ranges (R78, R80). -/
theorem LiftUnit.Recordable.buildRecord {u : LiftUnit} (h : u.Recordable) {c : LiftContext} (held : u.context = some c)
    (context : c.InRange) (kind : LiftKind) {release : Option Cell} (cell : ∀ x, release = some x → x.InRange) :
    (buildRecord kind release u.timer c).InRange := by
  obtain ⟨timer, parts⟩ := h
  obtain ⟨assortment, before⟩ := parts c held
  obtain ⟨weighing, grip, band⟩ := context
  refine ⟨assortment, weighing, grip, cell, band, ?_, timer⟩
  change c.pickTime.getD 0 ≤ u.timer
  cases picked : c.pickTime with
  | none => exact Nat.zero_le _
  | some p => exact before p picked

/-- A booking queues its record, or drops it (R99). -/
theorem State.mem_bookRecord {s : State} {r x : LiftRecord} (queued : x ∈ (s.bookRecord r).tally.records) :
    x ∈ s.tally.records ∨ x = { r with sequence := s.tally.sequence } := by
  have booked : ∀ (u : TallyUnit) (r : LiftRecord), (u.book r).records = u.records := by
    intro u r
    unfold TallyUnit.book
    cases r.kind <;> rfl
  have joins : ∀ (u : State) (r : LiftRecord), u.tally.records = s.tally.records →
      x ∈ (u.queueRecord r).tally.records → x ∈ s.tally.records ∨ x = r := by
    intro u r same member
    unfold State.queueRecord at member
    split at member
    · simpa [same] using member
    · exact .inl (by rwa [← same])
  refine joins _ _ ?_ queued
  split <;> simp [booked]

/-- The entry actions keep a sound Lift Unit (R37). -/
theorem State.enterGuard_sound {s : State} (h : s.lift.Sound) (g : GuardState) (byExpiry : Bool) :
    (s.enterGuard g byExpiry).lift.Sound := by
  by_cases same : s.guard.state = g
  · rwa [State.enterGuard_same same]
  · rw [State.enterGuard_changed same]
    exact State.attemptSwap_sound (State.liftGuardChange_sound (s := s.entry g byExpiry) h g)

namespace State.Measuring

variable {s : State} (h : s.Measuring)
include h

/-- Another Lift Unit of its ranges. -/
theorem withLift {t : State} (openSet : t.openSet = s.openSet) (tip : t.tip = s.tip) (capacity : t.capacity = s.capacity)
    (records : t.tally.records = s.tally.records) (banks : t.banks = s.banks) (lift : t.lift.Measured s.banks.active) :
    t.Measuring where
  slots := by rw [openSet]; exact h.slots
  tip := by rw [tip]; exact h.tip
  counts := by rw [capacity]; exact h.counts
  lift := by rwa [banks]
  records := by rw [records]; exact h.records
  active := by rw [banks]; exact h.active
  staging := by rw [banks]; exact h.staging

/-- An operation that leaves what is measured. -/
theorem of_eq {t : State} (openSet : t.openSet = s.openSet) (tip : t.tip = s.tip) (capacity : t.capacity = s.capacity)
    (records : t.tally.records = s.tally.records) (banks : t.banks = s.banks) (lift : t.lift = s.lift) : t.Measuring :=
  h.withLift openSet tip capacity records banks (by rw [lift]; exact h.lift)

/-! ### The banks -/

/-- A swap at rest (R84, R131, R145). -/
theorem swap (new : s.banks.staging.Measurable) (rests : s.lift.clearCount = 0 ∧ s.lift.window = []) : s.swap.Measuring where
  slots o opened := by
    rw [State.swap_openSet, openSetAfterSwap] at opened
    split at opened
    · exact h.slots o opened
    · exact nomatch opened
  tip := by simpa using h.tip
  counts := by simpa using h.counts
  lift := by
    rw [State.swap_banks, State.swap_lift]
    exact h.lift.swap new rests
  records := by simpa using h.records
  active := by simpa using new
  staging pending := by simp at pending

/-- An attempt (R144). -/
theorem attemptSwap (rests : s.lift.Rests) : s.attemptSwap.Measuring := by
  obtain same | ⟨pending, allowed, swapped⟩ := s.attemptSwap_cases
  · rwa [same]
  · rw [swapped]
    exact h.swap (h.staging pending) (rests (s.swapAllowed_iff.mp allowed).1)

/-! ### The Lift Unit -/

/-- The Tally Unit takes a record of its ranges (R89). -/
theorem bookRecord {r : LiftRecord} (inRange : r.InRange) : (s.bookRecord r).Measuring where
  slots := by simpa using h.slots
  tip := by simpa using h.tip
  counts := by simpa using h.counts
  lift := by simpa using h.lift
  records x queued := by
    obtain old | rfl := State.mem_bookRecord queued
    · exact h.records x old
    · exact inRange
  active := by simpa using h.active
  staging := by simpa using h.staging

/-- The end of a lift (R79). -/
theorem endLift : s.endLift.Measuring := h.withLift rfl rfl rfl rfl rfl h.lift.ended

/-- The end of a lift with its record (R79). -/
theorem endLiftRecorded (recordable : s.lift.Recordable) (kind : LiftKind) {release : Option Cell}
    (cell : ∀ x, release = some x → x.InRange) : (s.endLiftRecorded kind release).Measuring := by
  unfold State.endLiftRecorded
  split
  · next c held => exact h.endLift.bookRecord (recordable.buildRecord held (h.lift.context c held) kind cell)
  · exact h.endLift

/-- A search that fails (R85). -/
theorem failSearch : s.failSearch.Measuring :=
  h.withLift (by simp) (by simp) (by simp) (by simp) (by simp) (by simpa using h.lift.noSearch)

/-- The Lift Unit is told the guard state (R37, R75, R80). -/
theorem liftGuardChange (recordable : s.lift.Recordable) (g : GuardState) : (s.liftGuardChange g).Measuring := by
  have abandoned : s.abandonLift.Measuring := by
    have recorded := h.endLiftRecorded recordable .abandoned (release := none) nofun
    unfold State.abandonLift
    split
    · exact h
    · exact h.endLift
    all_goals exact recorded.of_eq rfl rfl rfl rfl rfl rfl
  cases g with
  | blocked => exact abandoned
  | hold => exact h.withLift rfl rfl rfl rfl rfl h.lift.enterHold
  | enforce => exact h
  | service | park => exact abandoned.failSearch

/-- A lift that can be recorded, with the overload mark (R74). -/
theorem markOverload (recordable : s.lift.Recordable) :
    s.markOverload.Measuring ∧ s.markOverload.lift.Recordable := by
  refine ⟨h.withLift (by simp) (by simp) (by simp) (by simp) (by simp) (State.markOverload_measured h.lift), ?_⟩
  obtain ⟨timer, parts⟩ := recordable
  unfold State.markOverload
  split
  · refine ⟨timer, fun c marked => ?_⟩
    obtain ⟨d, held, rfl⟩ := Option.map_eq_some_iff.mp marked
    exact parts d held
  · exact ⟨timer, parts⟩

/-- The lift state machine (R68 to R76). -/
theorem liftStep (recordable : s.lift.Recordable) (e : GrappleEvent) {t : TipPosition} (tip : t.InRange) :
    (s.liftStep e t).Measuring := by
  obtain ⟨marked, recordable'⟩ := h.markOverload recordable
  have released : (s.markOverload.releaseAloft t).Measuring := by
    refine (marked.endLiftRecorded recordable' _ ?_).attemptSwap ?_
    · rintro x ⟨⟩
      exact tip.cell
    · rw [State.endLiftRecorded_lift]
      exact fun _ => ⟨rfl, rfl⟩
  have cleared : (s.markOverload.clearStep t).Measuring :=
    marked.withLift (by simp) (by simp) (by simp) (by simp) (by simp) (State.clearStep_measured marked.lift t)
  have weighed : (s.markOverload.weighStep t).Measuring :=
    marked.withLift (by simp) (by simp) (by simp) (by simp) (by simp) (State.weighStep_measured marked.lift marked.active tip)
  have begun : ((s.beginLift t).markOverload).Measuring :=
    h.withLift (by simp) (by simp) (by simp) (by simp) (by simp)
      (State.markOverload_measured (State.beginLift_measured h.lift tip))
  unfold State.liftStep
  split
  case h_1 => exact begun
  case h_2 | h_3 => exact h
  case h_4 => exact marked.endLift.attemptSwap fun _ => ⟨rfl, rfl⟩
  case h_5 | h_6 => exact cleared
  case h_7 | h_10 => exact released
  case h_8 | h_9 | h_11 | h_12 => exact weighed

/-- A tip position at the Lift Unit (R65). -/
theorem liftTake (sound : s.lift.Sound) {t : TipPosition} (tip : t.InRange) : (s.liftTake t).Measuring := by
  have tared : ∀ u : State, u.Measuring → (u.tareStep t).Measuring := fun u ok =>
    ok.withLift (by simp) (by simp) (by simp) (by simp) (by simp) (State.tareStep_measured ok.lift ok.active tip)
  have gripped : (s.grappleStep t).Measuring := by
    refine h.withLift (by simp) (by simp) (by simp) (by simp) (by simp) ?_
    rw [State.grappleStep_lift]
    split
    · exact (h.lift.withGrapple _).noSearch
    · exact h.lift.withGrapple _
  have recordable : (s.grappleStep t).lift.Recordable := by
    rw [State.grappleStep_lift]
    exact sound.recordable
  unfold State.liftTake
  dsimp only
  split
  · exact tared _ (gripped.liftStep recordable _ tip)
  · exact tared _ gripped

/-! ### The guard -/

/-- The entry actions (R37, R130). -/
theorem enterGuard (sound : s.lift.Sound) (g : GuardState) (byExpiry : Bool) : (s.enterGuard g byExpiry).Measuring := by
  by_cases same : s.guard.state = g
  · rwa [State.enterGuard_same same]
  · rw [State.enterGuard_changed same]
    have entered : (s.entry g byExpiry).Measuring := by
      refine ⟨fun o opened => ?_, h.tip, h.counts, h.lift, h.records, h.active, h.staging⟩
      change openSetAfterEntry g s.openSet = some o at opened
      cases g with
      | park => exact nomatch opened
      | blocked | hold | enforce | service => exact h.slots o opened
    have told := State.liftGuardChange_sound (s := s.entry g byExpiry) sound g
    exact (entered.liftGuardChange sound.recordable g).attemptSwap told.rests

/-- A tip position at the guard (R40). -/
theorem guardTake (sound : s.lift.Sound) : s.guardTake.Measuring := by
  have seen : s.tipSeen.Measuring := h.of_eq rfl rfl rfl rfl rfl rfl
  rw [State.guardTake_eq]
  split
  · exact seen.enterGuard sound _ _
  · exact seen

/-- A complete set of values of their ranges (R3, R17). -/
theorem deliver (sound : s.lift.Sound) {x : SampleSet} (set : x.InRange) : (s.deliver x).Measuring := by
  have tip := h.active.record_inRange set s.lift.tare
  have recorded : (s.takeRecord (geometryRecord s.banks.active s.lift.tare x)).Measuring := by
    rw [State.takeRecord_eq]
    refine State.Measuring.of_eq (s := s.tipWritten (geometryRecord s.banks.active s.lift.tare x)) ?_ (by simp) (by simp)
      (by simp) (by simp) (by simp) (by simp)
    exact ⟨h.slots, by rintro t ⟨⟩; exact tip, h.counts.filter _ _, h.lift, h.records, h.active, h.staging⟩
  have sound' : (s.takeRecord (geometryRecord s.banks.active s.lift.tare x)).lift.Sound := by simpa using sound
  rw [State.deliver_eq]
  generalize s.takeRecord (geometryRecord s.banks.active s.lift.tare x) = u at recorded sound'
  refine (recorded.guardTake sound').liftTake ?_ tip
  rw [State.guardTake_eq]
  split
  · exact State.enterGuard_sound (s := u.tipSeen) sound' _ _
  · exact sound'

end State.Measuring

end Sys2Proof.Machine

/-! PROOFS. Every event keeps what is measured in its ranges, the factory defaults under a clear flag, and an enabled selection
(spec/01 to spec/05, spec/07, spec/08, R17, R28, R29, R68 to R86, R94, R121, R123, R136) -/

namespace Sys2Proof.Machine

/-! ### The tables while they are measured with -/

/-- The active bank is validated, or holds the factory defaults (R121, R134, R136). -/
theorem State.ValidOk.active_measurable {s : State} (h : s.ValidOk) (active : s.ActiveOk) :
    s.banks.active.Measurable := by
  cases flag : s.banks.activeValid with
  | true => exact .of_valid (h.2.1 flag)
  | false =>
    rw [active flag]
    exact factoryDefaults_measurable

/-- What an image read loads is validated, or the factory defaults (R150). -/
theorem State.ValidOk.loaded_measurable {s : State} (h : s.ValidOk) : (loadedTables s.store.image).Measurable := by
  unfold loadedTables
  split
  · next matching => exact .of_valid (h.2.2.2 matching)
  · exact factoryDefaults_measurable

/-! ### What is measured -/

/-- The invariant looks at the open set, the tip position, the Capacity Monitor, the Lift Unit, the records and the active
bank. -/
theorem State.MeasuredOk.of_eq {s t : State} (h : s.MeasuredOk) (openSet : t.openSet = s.openSet) (tip : t.tip = s.tip)
    (capacity : t.capacity = s.capacity) (lift : t.lift = s.lift) (records : t.tally.records = s.tally.records)
    (active : t.banks.active = s.banks.active) : t.MeasuredOk := by
  unfold State.MeasuredOk at h ⊢
  rwa [openSet, tip, capacity, lift, records, active]

/-- The reset values, with a tare value of its range (R18, R36, R87, R101, R132). -/
theorem State.measuredOk_of_reset {t : State} {tare : Nat} (openSet : t.openSet = none) (tip : t.tip = none)
    (capacity : t.capacity = CapacityMonitor.reset) (lift : t.lift = LiftUnit.reset tare) (low : tare ≤ 2000)
    (records : t.tally.records = []) (active : t.banks.active.Measurable) : t.MeasuredOk := by
  have unit := LiftUnit.measured_reset active low
  rw [← lift] at unit
  obtain ⟨clear, window, masses, context, tare, search⟩ := unit
  exact ⟨by simp [openSet], by simp [tip], by simp [capacity, CapacityMonitor.reset], by simp [capacity, CapacityMonitor.reset],
    by simp [capacity, CapacityMonitor.reset], by simp [capacity, CapacityMonitor.reset], clear, window, masses, context,
    by simp [records], tare, search⟩

namespace State.Measuring

variable {s : State} (h : s.Measuring)
include h

/-- What is measured lies in its ranges. -/
theorem measured : s.MeasuredOk := (s.measuring_iff.mp h).1

/-- A SAMPLE frame fills slots with values of their ranges, or completes the set (R126, R127). -/
theorem snoop (sound : s.lift.Sound) (f : Frame) : (s.snoop f).Measuring := by
  have delivered : ∀ x : SampleSet, x.InRange → ({ s with openSet := none } : State).Measuring
      → (({ s with openSet := none } : State).deliver x).Measuring := fun x set closed =>
    closed.deliver sound set
  obtain ⟨slots, tip, counts, lift, records, active, staging⟩ := h
  unfold State.snoop
  split
  · next n o _ opened =>
    have taken := (slots o opened).takePairs s.banks.active f.src.toNat (pairsOf n f.payload)
    dsimp only
    split
    · split
      · exact delivered _ taken.completeSet ⟨nofun, tip, counts, lift, records, active, staging⟩
      · refine ⟨?_, tip, counts, lift, records, active, staging⟩
        rintro o' ⟨⟩
        exact taken
    · exact ⟨slots, tip, counts, lift, records, active, staging⟩
  · exact ⟨slots, tip, counts, lift, records, active, staging⟩

/-- A SYNC frame opens an empty set; a lost set empties the windows (R82, R125, R128). -/
theorem takeSync (sequence : Byte) : (s.takeSync sequence).Measuring := by
  obtain ⟨-, tip, counts, lift, records, active, staging⟩ := h
  have empty : SlotsInRange emptySlots := by
    intro q v slot
    have member := List.mem_of_getElem? slot
    exact nomatch (List.eq_of_mem_replicate member)
  have opened : ∀ u : State, u.openSet = some ⟨sequence, emptySlots⟩ → ∀ o, u.openSet = some o → SlotsInRange o.slots := by
    intro u same o opened
    rw [same] at opened
    cases opened
    exact empty
  unfold State.takeSync
  dsimp only
  split
  · exact ⟨opened _ rfl, tip, counts, lift.lostSet, records, active, staging⟩
  · exact ⟨opened _ rfl, tip, counts, lift, records, active, staging⟩

/-- A DEMAND frame (R60, R144). -/
theorem guardDemand (sound : s.lift.Sound) (f : Frame) : (s.guardDemand f).Measuring := by
  obtain same | ⟨-, out, -, dropped | ⟨-, waits | ⟨-, attempted⟩⟩⟩ := s.guardDemand_cases f
  · rwa [same]
  · rw [dropped]
    exact h.of_eq (by simp) (by simp) (by simp) (by simp) (by simp) (by simp)
  · rw [waits]
    exact h.of_eq (by simp) (by simp) (by simp) (by simp) (by simp) (by simp)
  · rw [attempted]
    have joined : ((s.demandJudged out).demandJoined (filteredFrame f out) true).Measuring :=
      h.of_eq (by simp) (by simp) (by simp) (by simp) (by simp) (by simp)
    exact joined.attemptSwap (by simpa using sound.rests)

/-- WATCH_EXPIRY (R42). -/
theorem watchExpiry (sound : s.lift.Sound) : s.watchExpiry.Measuring := by
  have expired : s.watchExpires.Measuring := h.of_eq rfl rfl rfl rfl rfl rfl
  unfold State.watchExpiry
  split
  · exact expired.enterGuard sound _ _
  · exact expired.of_eq rfl rfl rfl rfl rfl rfl
  all_goals exact h

/-- SKEY_DEASSERT (R47). -/
theorem keyLost (sound : s.lift.Sound) : s.keyLost.Measuring := by
  have released : ({ s with pins := { s.pins with skey := false } } : State).Measuring :=
    h.of_eq rfl rfl rfl rfl rfl rfl
  unfold State.keyLost
  dsimp only
  split
  · exact (released.enterGuard sound .blocked false).of_eq rfl rfl rfl rfl rfl rfl
  · exact released

/-- The commands: a swap at once has validated its tables; TARE begins with an empty window; FETCH LIFT drops a record (R83,
R100, R143). -/
theorem judged {t : State} (sound : s.lift.Sound) (judged : Judged s t) : t.MeasuredOk := by
  cases judged with
  | entered g => exact (h.enterGuard sound g false).measured
  | swapped passes empty =>
    exact (h.swap (.of_valid (TableSet.valid_of_validate passes)) (sound.rests empty)).measured
  | sought =>
    obtain ⟨clear, window, masses, context, tare, -⟩ := h.lift
    refine State.Measuring.measured (h.withLift rfl rfl rfl rfl rfl ⟨clear, window, masses, context, tare, ?_⟩)
    rintro w ⟨⟩
    exact ⟨(by decide : 0 < 64), Nat.zero_le _, nofun⟩
  | fetched r rest queued =>
    obtain ⟨slots, tip, counts, lift, records, active, staging⟩ := h
    refine State.Measuring.measured ⟨slots, tip, counts, lift, fun x member => records x ?_, active, staging⟩
    rw [queued]
    exact List.mem_cons_of_mem _ member
  | forced | emptied => exact h.measured.of_eq (by simp) (by simp) (by simp) (by simp) (by simp) (by simp)
  | same | assigned | cleared | opened | written | pended | cancelled | stored | reloaded | selected | pendedReset =>
    exact h.measured.of_eq rfl rfl rfl rfl rfl rfl


/-- Every event keeps what is measured in its ranges. -/
theorem effect {u : State} {i : Instr} (sound : s.lift.Sound) (reading : s.ReadingOk) (valid : s.ValidOk)
    (effect : Effect s i u) : u.MeasuredOk := by
  have framed : ∀ {v t : State}, v.MeasuredOk → t.openSet = v.openSet → t.tip = v.tip → t.capacity = v.capacity
      → t.lift = v.lift → t.tally = v.tally → t.banks = v.banks → t.MeasuredOk := fun ok e1 e2 e3 e4 e5 e6 =>
    ok.of_eq e1 e2 e3 e4 (by rw [e5]) (by rw [e6])
  have carried : ∀ (f : Frame) (w : Bool), (judgePayload w f.payload (s.windowStep f.payload)).state.MeasuredOk := by
    intro f w
    have stepped : (s.windowStep f.payload).Measuring :=
      h.of_eq (by simp) (by simp) (by simp) (by simp) (by simp) (by simp)
    exact stepped.judged (by simpa using sound) (judgePayload_judged w f.payload s)
  cases effect with
  | taken _ f w =>
    rw [takeCommand_eq]
    exact framed (carried f w) (by simp) (by simp) (by simp) (by simp) (by simp) (by simp)
  | broadcast _ f w => exact framed (carried f w) (by simp) (by simp) (by simp) (by simp) (by simp) (by simp)
  | synced _ f sequence =>
    exact framed (h.takeSync sequence).measured (by simp) (by simp) (by simp) (by simp) (by simp) (by simp)
  | demanded _ f => exact (h.guardDemand sound f).measured
  | sampled _ f => exact framed (h.snoop sound f).measured (by simp) (by simp) (by simp) (by simp) (by simp) (by simp)
  | watchExpiry => exact (h.watchExpiry sound).measured
  | keyLost => exact (h.keyLost sound).measured
  | attempted => exact (h.attemptSwap sound.rests).measured
  | cabDeparts =>
    unfold State.cabDeparts
    split
    · exact h.measured
    · split
      · exact State.measuredOk_of_reset rfl rfl rfl rfl h.lift.tare rfl h.active
      · exact framed h.measured (by simp) (by simp) (by simp) (by simp) (by simp) (by simp)
  | lineReset => exact State.measuredOk_of_reset rfl rfl rfl rfl h.lift.tare rfl h.active
  | powerOn => exact State.measuredOk_of_reset rfl rfl rfl rfl h.lift.tare rfl h.active
  | imageReadEnd read =>
    obtain ⟨openSet, tip, capacity, -, lift, -, records, -⟩ := reading read
    have loaded : s.imageLoaded.MeasuredOk := by
      refine State.measuredOk_of_reset openSet tip capacity (tare := (loadedTables s.store.image).setting .defaultTare) ?_
        valid.loaded_measurable.defaultTare records valid.loaded_measurable
      have kept : s.imageLoaded.lift = { s.lift with tare := (loadedTables s.store.image).setting .defaultTare } := rfl
      rw [kept, lift]
      rfl
    rw [State.endImageRead_eq]
    split <;> exact framed loaded (by simp) (by simp) (by simp) (by simp) (by simp) (by simp)
  | storeEnd left =>
    have read : ∀ image, (s.storeRead image).Measuring := fun image =>
      h.of_eq (by simp) (by simp) (by simp) (by simp) (by simp) (by simp)
    rw [State.endStore_eq]
    exact ((read _).attemptSwap (by simpa using sound.rests)).measured
  | reloadEnd =>
    unfold State.endReload
    dsimp only
    split <;> exact h.measured.of_eq rfl rfl rfl rfl rfl rfl
  | liftTicked =>
    obtain ⟨clear, window, masses, context, tare, search⟩ := h.lift
    exact (h.withLift rfl rfl rfl rfl rfl ⟨clear, window, masses, context, tare, search⟩).measured
  | craneward | cabward | replyJoins =>
    exact framed h.measured (by simp) (by simp) (by simp) (by simp) (by simp) (by simp)
  | idle | latched | craneDeparts | contentLost => exact framed h.measured rfl rfl rfl rfl rfl rfl
  | workTicked => exact h.measured.of_eq rfl rfl rfl rfl rfl rfl

end State.Measuring

/-! ### The active bank under a clear flag (R121, R136) -/

/-- The invariant looks at the banks. -/
theorem State.ActiveOk.of_eq {s t : State} (h : s.ActiveOk) (active : t.banks.active = s.banks.active)
    (flag : t.banks.activeValid = s.banks.activeValid) : t.ActiveOk := by
  unfold State.ActiveOk at h ⊢
  rwa [active, flag]

/-- A swap sets the flag (R145). -/
theorem SwapsOrKeeps.activeOk {s t : State} (done : SwapsOrKeeps s t) (h : s.ActiveOk) : t.ActiveOk := by
  cases done with
  | keeps banks => exact h.of_eq (by rw [banks]) (by rw [banks])
  | swaps _ banks =>
    intro clear
    rw [banks] at clear
    exact nomatch clear

/-- The commands: a swap alone writes the active bank. -/
theorem State.ActiveOk.judged {s t : State} (h : s.ActiveOk) (judged : Judged s t) : t.ActiveOk := by
  cases judged with
  | entered g => exact (SwapsOrKeeps.enterGuard s g false).activeOk h
  | swapped => exact fun clear => by simp at clear
  | forced | emptied => exact h.of_eq (by simp) (by simp)
  | same | assigned | cleared | opened | written | pended | cancelled | stored | reloaded | selected | sought | fetched
    | pendedReset => exact h

/-- Every event keeps the factory defaults under a clear flag, and an image read that fails loads them (R136, R150). -/
theorem State.ActiveOk.effect {s u : State} {i : Instr} (h : s.ActiveOk) (effect : Effect s i u) : u.ActiveOk := by
  have carried : ∀ (f : Frame) (w : Bool), (judgePayload w f.payload (s.windowStep f.payload)).state.ActiveOk :=
    fun f w => (h.of_eq (by simp) (by simp) : (s.windowStep f.payload).ActiveOk).judged (judgePayload_judged w f.payload s)
  cases effect with
  | taken _ f w =>
    rw [takeCommand_eq]
    exact (carried f w).of_eq (by simp) (by simp)
  | broadcast _ f w => exact (carried f w).of_eq (by simp) (by simp)
  | demanded _ f => exact (SwapsOrKeeps.guardDemand s f).activeOk h
  | sampled _ f => exact ((SwapsOrKeeps.snoop s f).activeOk h).of_eq (by simp) (by simp)
  | watchExpiry => exact (SwapsOrKeeps.watchExpiry s).activeOk h
  | keyLost => exact (SwapsOrKeeps.keyLost s).activeOk h
  | attempted => exact (SwapsOrKeeps.attempt rfl rfl).activeOk h
  | cabDeparts =>
    unfold State.cabDeparts
    split
    · exact h
    · split
      · exact h
      · exact h.of_eq (by simp) (by simp)
  | imageReadEnd =>
    have loaded : s.imageLoaded.ActiveOk := by
      intro clear
      have fails : imageMatches s.store.image = false := clear
      change loadedTables s.store.image = factoryDefaults
      simp [loadedTables, fails]
    rw [State.endImageRead_eq]
    split <;> exact loaded.of_eq (by simp) (by simp)
  | storeEnd left =>
    have read : ∀ image, (s.storeRead image).ActiveOk := fun image => h.of_eq (by simp) (by simp)
    rw [State.endStore_eq]
    exact (SwapsOrKeeps.attempt rfl rfl).activeOk (read _)
  | reloadEnd =>
    unfold State.endReload
    dsimp only
    split <;> exact h
  | craneward | cabward | synced | replyJoins => exact h.of_eq (by simp) (by simp)
  | idle | latched | craneDeparts | lineReset | powerOn | liftTicked | workTicked | contentLost => exact h

/-! ### The selection (R93, R94) -/

/-- The invariant looks at the selection, the active bank and the image read. -/
theorem State.SelectionOk.of_eq {s t : State} (h : s.SelectionOk) (reading : t.store.reading = s.store.reading)
    (active : t.banks.active = s.banks.active) (selected : t.tally.selected = s.tally.selected) : t.SelectionOk := by
  unfold State.SelectionOk at h ⊢
  rwa [reading, active, selected]

/-- During an image read the invariant asks nothing. -/
theorem State.selectionOk_of_reading {s : State} (reading : s.store.reading = true) : s.SelectionOk := fun read =>
  nomatch reading.symm.trans read

/-- The selection after a swap to validated tables names an enabled assortment (R93, R94). -/
theorem selectionAfterSwap_enabled {b : TableSet} (valid : b.Valid) (selected : Nat) :
    b.assortmentEnabled (selectionAfterSwap b selected) = true := by
  unfold selectionAfterSwap
  split
  · next enabled => exact enabled
  · exact (assortment_of_valid valid).1

/-- An operation that attempts a pending commit, whose staging is validated. -/
theorem SwapsOrKeeps.selectionOk {s t : State} (done : SwapsOrKeeps s t) (h : s.SelectionOk) (valid : s.ValidOk)
    (reading : t.store.reading = s.store.reading) : t.SelectionOk := by
  cases done with
  | keeps banks selected => exact h.of_eq reading (by rw [banks]) selected
  | swaps pending banks selected =>
    intro _
    rw [banks, selected]
    exact selectionAfterSwap_enabled (valid.2.2.1 pending) _

/-- The commands: SELECT ASSORTMENT asks for an enabled one, COMMIT validates (R93, R143). -/
theorem State.SelectionOk.judged {s t : State} (h : s.SelectionOk) (valid : s.ValidOk) (judged : Judged s t) :
    t.SelectionOk := by
  cases judged with
  | entered g => exact (SwapsOrKeeps.enterGuard s g false).selectionOk h valid (by simp)
  | swapped passes =>
    intro _
    rw [State.swap_banks, State.swap_tally]
    exact selectionAfterSwap_enabled (TableSet.valid_of_validate passes) _
  | selected k index enabled => exact fun _ => enabled
  | forced | emptied => exact h.of_eq (by simp) (by simp) (by simp)
  | same | assigned | cleared | opened | written | pended | cancelled | stored | reloaded | sought | fetched
    | pendedReset => exact h

/-- Every event keeps an enabled selection (R94). -/
theorem State.SelectionOk.effect {s u : State} {i : Instr} (h : s.SelectionOk) (valid : s.ValidOk) (reading : s.ReadingOk)
    (effect : Effect s i u) : u.SelectionOk := by
  have carried : ∀ (f : Frame) (w : Bool), (judgePayload w f.payload (s.windowStep f.payload)).state.SelectionOk :=
    fun f w => (h.of_eq (by simp) (by simp) (by simp) : (s.windowStep f.payload).SelectionOk).judged
      (valid.of_eq (by simp) (by simp) (by simp)) (judgePayload_judged w f.payload s)
  cases effect with
  | taken _ f w =>
    rw [takeCommand_eq]
    exact (carried f w).of_eq (by simp) (by simp) (by simp)
  | broadcast _ f w => exact (carried f w).of_eq (by simp) (by simp) (by simp)
  | demanded _ f => exact (SwapsOrKeeps.guardDemand s f).selectionOk h valid (by simp)
  | sampled _ f =>
    exact ((SwapsOrKeeps.snoop s f).selectionOk h valid (by simp)).of_eq (by simp) (by simp) (by simp)
  | watchExpiry => exact (SwapsOrKeeps.watchExpiry s).selectionOk h valid (by simp)
  | keyLost => exact (SwapsOrKeeps.keyLost s).selectionOk h valid (by simp)
  | attempted => exact (SwapsOrKeeps.attempt rfl rfl).selectionOk h valid (by simp)
  | cabDeparts =>
    unfold State.cabDeparts
    split
    · exact h
    · split
      · exact State.selectionOk_of_reading rfl
      · exact h.of_eq (by simp) (by simp) (by simp)
  | lineReset => exact State.selectionOk_of_reading rfl
  | powerOn => exact State.selectionOk_of_reading rfl
  | imageReadEnd read =>
    obtain ⟨-, -, -, -, -, selected, -⟩ := reading read
    have loaded : s.imageLoaded.SelectionOk := by
      intro _
      change (loadedTables s.store.image).assortmentEnabled s.tally.selected = true
      rw [selected, loadedTables]
      split
      · next matching => exact (assortment_of_valid (valid.2.2.2 matching)).1
      · exact (factoryDefaults_assortment (by decide)).1.mpr rfl
    rw [State.endImageRead_eq]
    split <;> exact loaded.of_eq (by simp) (by simp) (by simp)
  | storeEnd left store =>
    have read : ∀ image, SwapsOrKeeps s (s.storeRead image).attemptSwap := fun image => .attempt (by simp) (by simp)
    rw [State.endStore_eq]
    exact (read _).selectionOk h valid (by simp)
  | reloadEnd =>
    unfold State.endReload
    dsimp only
    split <;> exact h
  | craneward | cabward | synced | replyJoins => exact h.of_eq (by simp) (by simp) (by simp)
  | idle | latched | craneDeparts | liftTicked | workTicked | contentLost => exact h

/-- Settles O56, by the effects of an event: the active bank, what is measured with it, and the selection. -/
theorem measurementsStayInRange : Obligations.MeasurementsStayInRange := by
  refine ⟨fun s t active ran => ?_, fun s t _ lift reading valid active measured ran => ?_,
    fun s t reading valid selection ran => ?_⟩
  · exact step_keeps (H := State.ActiveOk) (P := State.ActiveOk) (fun _ h => h) (fun _ _ h => h) (fun _ _ h => h)
      (fun _ _ _ h effect => h.effect effect) (fun _ h => h) active ran
  · have sound : s.lift.Sound := (s.liftOk_iff.mp lift).2
    have measuring : s.Measuring := s.measuring_iff.mpr ⟨measured, valid.active_measurable active,
      fun pending => .of_valid (valid.2.2.1 pending)⟩
    exact step_keeps (H := fun s => s.lift.Sound ∧ s.ReadingOk ∧ s.ValidOk ∧ s.Measuring) (P := State.MeasuredOk)
      (fun _ h => h.2.2.2.measured) (fun _ _ ⟨h1, h2, h3, h4⟩ => ⟨h1, h2, h3, h4.of_eq rfl rfl rfl rfl rfl rfl⟩)
      (fun _ _ ⟨h1, h2, h3, h4⟩ => ⟨h1, h2, h3, h4.of_eq rfl rfl rfl rfl rfl rfl⟩)
      (fun _ _ _ ⟨h1, h2, h3, h4⟩ effect => h4.effect h1 h2 h3 effect) (fun _ h => h) ⟨sound, reading, valid, measuring⟩ ran
  · exact step_keeps (H := fun s => s.ReadingOk ∧ s.ValidOk ∧ s.SelectionOk) (P := State.SelectionOk) (fun _ h => h.2.2)
      (fun _ _ h => h) (fun _ _ h => h) (fun _ _ _ ⟨h1, h2, h3⟩ effect => h3.effect h2 h1 effect) (fun _ h => h)
      ⟨reading, valid, selection⟩ ran

end Sys2Proof.Machine

/-! PROOFS. Steps, the two resets, LINE RESET and ASSIGN ADDRESS (spec/00, spec/06, spec/09, R107, R108, R153, R160 to R162) -/

namespace Sys2Proof.Machine

/-! ### The queue of commands -/

/-- Settles O1: what a step does with a queue that is not empty is its definition. -/
theorem stepRunsFrontCommand : Obligations.StepRunsFrontCommand := fun _ _ _ => rfl

/-- No command of the line touches the queue of the model. -/
theorem Judged.pending {s t : State} (judged : Judged s t) : t.pending = s.pending := by
  cases judged with
  | entered | forced | swapped | emptied => simp
  | same | assigned | cleared | opened | written | pended | cancelled | stored | reloaded | selected | sought | fetched
    | pendedReset => rfl

/-- No event touches the queue of the model. -/
theorem Effect.pending {s u : State} {i : Instr} (effect : Effect s i u) : u.pending = s.pending := by
  have carried : ∀ (f : Frame) (w : Bool), (judgePayload w f.payload (s.windowStep f.payload)).state.pending = s.pending :=
    fun f w => (judgePayload_judged w f.payload s).pending.trans (by simp)
  cases effect with
  | taken _ f w =>
    rw [takeCommand_eq, (State.placeReply_frame _ _).2.2.2.2.2.2.2.2.2.2.2.2]
    exact carried f w
  | broadcast _ f w =>
    rw [(State.forwardCrane_frame _ _).2.2.2.2.2.2.2.2.2.2.2.2]
    exact carried f w
  | cabDeparts =>
    unfold State.cabDeparts
    split
    · rfl
    · split
      · rfl
      · simp
  | synced | demanded | sampled | watchExpiry | keyLost | attempted | imageReadEnd | storeEnd | reloadEnd | craneward | cabward
    | replyJoins => simp
  | idle | latched | craneDeparts | lineReset | powerOn | liftTicked | workTicked | contentLost => rfl

/-- Settles O2, by the effects of an event: each has a next state and leaves the queue. -/
theorem everyStepAnswersNextState : Obligations.EveryStepAnswersNextState := by
  intro s
  cases queue : s.pending with
  | nil => exact ⟨s, by simp [step, queue], by simp [queue], fun _ => rfl⟩
  | cons i rest =>
    obtain ⟨levels, u, effect, ran⟩ := exec_effect i { s with pending := rest }
    refine ⟨u.driveAttn, by simp [step, queue, ran, finish_next], ?_, nofun⟩
    simpa using effect.pending

/-! ### The two resets (R160 to R162) -/

/-- Settles O6: the state of the power-on reset, field by field, and the image of a store it cuts off (R153). -/
theorem powerOnResetValues : Obligations.PowerOnResetValues := by
  intro s
  refine ⟨imageAfterPowerOn s.freeDraws s.store.state s.store.image, s.freeDraws + 1, rfl, fun running => ?_, fun storing => ?_⟩
  · cases store : s.store.state with
    | storing => exact absurd store running
    | idle | reloading => rfl
  · rw [storing]
    exact imageMatches_spoiled _ _ (cutStoreTables_length _)

/-- LINE RESET's judgement (R160). -/
theorem judgeLineReset_eq (args : Bytes) (s : State) :
    judgeLineReset args s
      = if args.length ≠ 0 then s.refuse .badArgument
        else if s.store.state = .storing ∨ s.store.state = .reloading then s.refuse .busy
        else ({ s with unit := { s.unit with lineResetPending := true } } : State).done := by
  unfold judgeLineReset
  cases s.store.state <;> simp

/-- A line reset takes effect with the departure of its reply from the head of the queue (R161). -/
theorem State.cabDeparts_resets {s : State} (pending : s.unit.lineResetPending = true)
    (first : s.line.cabQueue.head?.map (·.origin) = some .lineResetReply) : s.cabDeparts = s.lineReset := by
  have departs : s.resetReplyFirst = true := by simp [State.resetReplyFirst, pending, first]
  unfold State.cabDeparts
  split
  · next empty => simp [empty] at first
  · rw [if_pos departs]

/-- Settles O7: LINE RESET by its judgement, and the line reset's values at either event that brings it. -/
theorem lineResetPendsUntilItsReplyDeparts : Obligations.LineResetPendsUntilItsReplyDeparts := by
  refine ⟨fun s p takes short => ?_, fun s i pending event => ?_⟩
  · have ran : exec (.lineReset p) s = commandEvent (commandFrame .lineReset p) (judgeLineReset p.body) s := rfl
    rw [ran, commandEvent_closed _ (by decide) takes short, judgeLineReset_eq]
    have store : s.closeWindow.store = s.store := by simp
    rw [store]
    split_ifs <;> rfl
  · have reset : exec i s = finish s.lineReset := by
      obtain ⟨rfl, first⟩ | ⟨rfl, slot, queue⟩ := event
      · rw [← State.cabDeparts_resets pending first]
        rfl
      · have departed : s.resetReplyWaits = false := by
          simpa [State.resetReplyWaits, slot] using queue
        have ran : exec .lineResetTakesEffect s
            = finish (if s.unit.lineResetPending && !s.resetReplyWaits then s.lineReset else s) := rfl
        rw [ran, pending, departed]
        rfl
    rw [reset]
    rfl

/-! ### ASSIGN ADDRESS (R107, R108) -/

/-- The judgement of ASSIGN ADDRESS with the router as the rules allow it: an address that is the node's already is assigned
again (R106, R108). -/
theorem judgeAssignAddress_eq {s : State} (router : s.RouterOk) (args : Bytes) :
    judgeAssignAddress args s
      = if args.length ≠ 1 ∨ u8At args 0 = 0 ∨ 31 ≤ u8At args 0
            ∨ (u8At args 0 = s.banks.active.setting .valveAddress ∧ s.banks.activeValid = true) then
          s.refuse .badArgument
        else ({ s with router := ⟨BitVec.ofNat 5 (u8At args 0), .linked, true⟩ } : State).done := by
  have assigned : s.router.link = .linked ∧ s.router.nodeAddress.toNat = u8At args 0 →
      ({ s with router := ⟨BitVec.ofNat 5 (u8At args 0), .linked, true⟩ } : State) = s := by
    rintro ⟨linked, own⟩
    obtain ⟨dark, -⟩ | ⟨-, -, -, cso⟩ := router
    · simp [linked] at dark
    · have same : (⟨BitVec.ofNat 5 (u8At args 0), .linked, true⟩ : Router) = s.router := by
        rw [← own, BitVec.ofNat_toNat, BitVec.setWidth_eq, ← linked, ← cso]
      rw [same]
  unfold judgeAssignAddress
  dsimp only
  by_cases length : args.length ≠ 1
  · rw [if_pos length, if_pos (.inl length)]
  · by_cases range : u8At args 0 = 0 ∨ 31 ≤ u8At args 0
    · rw [if_neg length, if_pos range, if_pos (.inr (range.imp_right .inl))]
    · by_cases valve : u8At args 0 = s.banks.active.setting .valveAddress ∧ s.banks.activeValid = true
      · rw [if_neg length, if_neg range, if_pos valve, if_pos (.inr (.inr (.inr valve)))]
      · have passes : ¬(args.length ≠ 1 ∨ u8At args 0 = 0 ∨ 31 ≤ u8At args 0
            ∨ (u8At args 0 = s.banks.active.setting .valveAddress ∧ s.banks.activeValid = true)) := by tauto
        rw [if_neg length, if_neg range, if_neg valve, if_neg passes]
        split
        · next own => rw [assigned own]
        · rfl

/-- A command that is addressed to the Command Unit is taken (R107, R109). -/
theorem commandEvent_addressed {f : Frame} {judge : State → Answer} {s : State} (short : f.payload.length ≤ 28)
    (reading : s.store.reading = false) (pending : s.unit.lineResetPending = false) (slot : s.unit.replySlot = none)
    (addressed : (s.router.link = .linked ∧ f.dest = s.router.nodeAddress)
      ∨ (s.router.link = .dark ∧ f.dest = discoveryAddress ∧ commandOfPayload f.payload = some .assignAddress
        ∧ s.pins.csi = true)) :
    commandEvent f judge s = .next (takeCommand f judge s).driveAttn := by
  rw [commandEvent, finish, cabPort_routed short reading]
  have routed : routeCommand f judge s = handCommand f judge s := by
    obtain ⟨linked, dest⟩ | ⟨dark, discovery⟩ := addressed
    · exact routeCommand_handed linked dest
    · simp [routeCommand, dark, discovery]
  rw [routed, handCommand_taken pending slot]

/-- Settles O8, by the judgement of ASSIGN ADDRESS where the Router hands it over. -/
theorem assignAddressJudged : Obligations.AssignAddressJudged := by
  intro s p csi router short reading pending slot addressed a u
  have ran : exec (.assignAddress p csi) s
      = commandEvent (commandFrame .assignAddress p) (judgeAssignAddress p.body) (s.samplePins ⟨csi, s.pins.skey⟩) := rfl
  have frame : (commandFrame .assignAddress p).payload.length ≤ 28 := by
    rw [commandFrame_payload_length]
    omega
  rw [ran, commandEvent_addressed (s := s.samplePins ⟨csi, s.pins.skey⟩) frame reading pending slot ?_]
  · have kept : u.RouterOk := router
    rw [takeCommand_driveAttn, windowStep_closes (by decide)]
    change Host.Outcome.next ((judgeAssignAddress p.body u).ends .assignAddress p) = _
    split
    · next refused =>
      rw [(judgeAssignAddress_eq kept p.body).trans (if_pos refused)]
      rfl
    · next assigned =>
      rw [(judgeAssignAddress_eq kept p.body).trans (if_neg assigned)]
      rfl
  · obtain ⟨dark, dest, level⟩ | linked := addressed
    · exact .inr ⟨dark, dest, by simp [commandFrame], level⟩
    · exact .inl linked

end Sys2Proof.Machine

/-! PROOFS. The records that replies carry stand in their byte layouts (spec/11, R1, R169) -/

namespace Sys2Proof.Machine

/-! ### Fields of several bytes (R1) -/

/-- A flag is 0 or 1. -/
theorem flagBit_le (b : Bool) : flagBit b ≤ 1 := by cases b <;> decide

/-- The codes of the states lie below the widths of their fields (R169). -/
theorem guardCode_le (g : GuardState) : guardCode g ≤ 4 := by cases g <;> decide

/-- The code of a lift state has two bits (R169). -/
theorem liftCode_le (l : LiftState) : liftCode l ≤ 3 := by cases l <;> decide

/-- The code of a store state has two bits (R169). -/
theorem storeCode_le (l : StoreState) : storeCode l ≤ 2 := by cases l <;> decide

/-- The code of a limit flag has two bits (R169). -/
theorem limitCode_le (f : LimitFlag) : limitCode f ≤ 3 := by cases f <;> decide

/-- The code of a lift kind has three bits (R169). -/
theorem kindCode_le (k : LiftKind) : kindCode k ≤ 4 := by cases k <;> decide

/-- The limit flags of a word, two bits each, flag 0 lowest (R61, R169). -/
theorem flagWord_field {flags : List LimitFlag} {i : Nat} {f : LimitFlag} (flag : flags[i]? = some f) :
    bitField (flagWord flags) (2 * i) 2 = limitCode f := by
  induction flags generalizing i with
  | nil => simp at flag
  | cons first rest ih =>
    have small := limitCode_le first
    cases i with
    | zero =>
      obtain rfl : first = f := by simpa using flag
      simp only [bitField, flagWord]
      omega
    | succ i =>
      have above := ih (i := i) (by simpa using flag)
      have shift : (limitCode first + 4 * flagWord rest) / 4 = flagWord rest := by omega
      rw [← above, bitField, bitField, flagWord, show 2 ^ (2 * (i + 1)) = 4 * 2 ^ (2 * i) by ring, ← Nat.div_div_eq_div_mul,
        shift]

/-- Eight limit flags have sixteen bits (R169). -/
theorem flagWord_lt (flags : List LimitFlag) : flagWord flags < 4 ^ flags.length := by
  induction flags with
  | nil => decide
  | cons first rest ih =>
    have small := limitCode_le first
    rw [List.length_cons, Nat.pow_succ, flagWord]
    omega

/-- An optional field of its range is never read as absent (R167). -/
theorem getD_lt_65536 {v : Option Nat} {limit : Nat} (range : ∀ n, v = some n → n ≤ limit) (low : limit < 65536) :
    v.getD 65535 < 65536 := by
  cases v with
  | none => decide
  | some n => exact (range n rfl).trans_lt low

/-- The sum of twelve values of a range. -/
theorem sum_le_of_twelve {l : List Tally} (twelve : l.length = 12) {f : Tally → Nat} {limit : Nat}
    (range : ∀ t ∈ l, f t ≤ limit) : (l.map f).sum ≤ 12 * limit := by
  have sum := List.sum_le_card_nsmul (l.map f) limit (by simpa using range)
  simpa [twelve] using sum

/-- The bits of a set of conditions as four bytes give it (R163). -/
theorem testBit_set (set : BitVec 25) (k : Condition) :
    (set.toNat % 4294967296).testBit k.bit = set.getLsbD k.bit := by
  rw [Nat.mod_eq_of_lt (set.isLt.trans (by decide))]
  rfl

end Sys2Proof.Machine

/-! PROOFS. The status record, the lift record, the tally record and the totals record, byte by byte (spec/11, R159, R169) -/

namespace Sys2Proof.Machine

/-! ### Status record (R159) -/

/-- The tip group has ten bytes (R169). -/
theorem tipBytes_length (tip : Option TipPosition) : (tipBytes tip).length = 10 := by
  cases tip <;> simp [tipBytes, optional16, bytes16]

/-- The tip group begins at byte 16 of the status record (R169). -/
theorem statusRecord_tip (windowOpen : Bool) (s : State) (k : Nat) :
    u8At (statusRecord windowOpen s) (16 + k) = u8At (tipBytes s.tip) k :=
  u8At_append_right _ (tipBytes s.tip) k

/-- The bytes of the status record before the tip group, by their values (R159, R169). -/
theorem statusRecord_bytes (windowOpen : Bool) (s : State) :
    let r := statusRecord windowOpen s
    u8At r 0 = (flagBit (s.router.link == .linked) * 128 + s.router.nodeAddress.toNat) % 256
      ∧ u8At r 1 = (guardCode s.guard.state * 32 + flagBit s.guard.forceTest * 16 + liftCode s.lift.state * 4
          + flagBit (s.lift.grapple == .closed) * 2 + flagBit s.lift.search.isSome) % 256
      ∧ u16At r 2 = flagWord s.guard.limitFlags % 65536
      ∧ u16At r 4 = (s.tally.selected * 4096 + s.lift.tare % 2048) % 65536
      ∧ u8At r 6 = (flagBit (s.banks.commit == .pending) * 32 + flagBit windowOpen * 16 + flagBit s.banks.activeValid * 8
          + storeCode s.store.state * 2 + flagBit s.store.imageValid) % 256
      ∧ u8At r 7 = s.tally.records.length % 256
      ∧ u32At r 8 = s.conditions.latched.toNat % 4294967296
      ∧ u32At r 12 = s.presentSet.toNat % 4294967296 := by
  simp only [statusRecord, bytes16, bytes32, List.cons_append, List.nil_append, u32At, u16At, u8At_cons_zero, u8At_cons_succ,
    byteOf_toNat]
  refine ⟨trivial, trivial, ?_, ?_, trivial, trivial, ?_, ?_⟩ <;> omega

/-- The tip group of a tip position, by the values of its fields (R169). -/
theorem tipBytes_some (t : TipPosition) :
    let b := tipBytes (some t)
    u8At b 0 = (ringCode t.ring * 16 + t.sector) % 256 ∧ u8At b 1 = (bandCode t.band * 16 + t.fallSector.getD 15) % 256
      ∧ u16At b 2 = t.utilization.getD 65535 % 65536 ∧ u16At b 4 = t.net % 65536 ∧ u16At b 6 = t.reach % 65536
      ∧ u16At b 8 = t.slew % 65536 := by
  simp only [tipBytes, optional16, bytes16, List.cons_append, List.nil_append, u16At, u8At_cons_zero, u8At_cons_succ,
    byteOf_toNat]
  refine ⟨trivial, trivial, ?_, ?_, ?_, ?_⟩ <;> omega

/-- The fields of the status record before the tip group (R159, R169). -/
theorem statusRecord_fields {s : State} (windowOpen : Bool) (flags : s.guard.limitFlags.length = 8)
    (selected : s.tally.selected < 12) (tare : s.lift.tare ≤ 2000) (records : s.tally.records.length ≤ 24) :
    let r := statusRecord windowOpen s
    bitField (u8At r 0) 7 1 = flagBit (s.router.link == .linked)
      ∧ bitField (u8At r 0) 0 5 = s.router.nodeAddress.toNat
      ∧ bitField (u8At r 1) 5 3 = guardCode s.guard.state ∧ bitField (u8At r 1) 4 1 = flagBit s.guard.forceTest
      ∧ bitField (u8At r 1) 2 2 = liftCode s.lift.state
      ∧ bitField (u8At r 1) 1 1 = flagBit (s.lift.grapple == .closed)
      ∧ bitField (u8At r 1) 0 1 = flagBit s.lift.search.isSome
      ∧ (∀ i f, s.guard.limitFlags[i]? = some f → bitField (u16At r 2) (2 * i) 2 = limitCode f)
      ∧ bitField (u16At r 4) 12 4 = s.tally.selected ∧ bitField (u16At r 4) 0 11 = s.lift.tare
      ∧ bitField (u8At r 6) 5 1 = flagBit (s.banks.commit == .pending) ∧ bitField (u8At r 6) 4 1 = flagBit windowOpen
      ∧ bitField (u8At r 6) 3 1 = flagBit s.banks.activeValid ∧ bitField (u8At r 6) 1 2 = storeCode s.store.state
      ∧ bitField (u8At r 6) 0 1 = flagBit s.store.imageValid
      ∧ u8At r 7 = s.tally.records.length
      ∧ (∀ k : Condition, (u32At r 8).testBit k.bit = s.isLatched k)
      ∧ ∀ k : Condition, (u32At r 12).testBit k.bit = s.cause k := by
  obtain ⟨byte0, byte1, word2, word4, byte6, byte7, word8, word12⟩ := statusRecord_bytes windowOpen s
  have address := s.router.nodeAddress.isLt
  have link := flagBit_le (s.router.link == .linked)
  have guard := guardCode_le s.guard.state
  have test := flagBit_le s.guard.forceTest
  have lift := liftCode_le s.lift.state
  have grapple := flagBit_le (s.lift.grapple == .closed)
  have search := flagBit_le s.lift.search.isSome
  have commit := flagBit_le (s.banks.commit == .pending)
  have window := flagBit_le windowOpen
  have valid := flagBit_le s.banks.activeValid
  have store := storeCode_le s.store.state
  have image := flagBit_le s.store.imageValid
  have word : flagWord s.guard.limitFlags < 65536 := (flagWord_lt s.guard.limitFlags).trans_eq (by rw [flags]; rfl)
  have flagField : ∀ i f, s.guard.limitFlags[i]? = some f →
      bitField (flagWord s.guard.limitFlags % 65536) (2 * i) 2 = limitCode f := by
    intro i f flag
    rw [Nat.mod_eq_of_lt word]
    exact flagWord_field flag
  intro r
  rw [byte0, byte1, word2, word4, byte6, byte7, word8, word12]
  refine ⟨?_, ?_, ?_, ?_, ?_, ?_, ?_, flagField, ?_, ?_, ?_, ?_, ?_, ?_, ?_, by omega, fun k => testBit_set _ k,
    fun k => (testBit_set _ k).trans (s.presentSet_getLsbD k)⟩
  all_goals
    simp only [bitField]
    omega

/-- Without a tip position every bit of the tip group is set (R159, R167). -/
theorem statusRecord_noTip {s : State} (windowOpen : Bool) (none : s.tip = none) {k : Nat} (low : 16 ≤ k) (high : k < 26) :
    u8At (statusRecord windowOpen s) k = 255 := by
  obtain ⟨j, rfl⟩ := Nat.exists_eq_add_of_le low
  rw [statusRecord_tip, none]
  have inside : j < 10 := by omega
  interval_cases j <;> rfl

/-- The fields of the tip group of a tip position of its ranges (R159, R169). -/
theorem statusRecord_someTip {s : State} (windowOpen : Bool) {t : TipPosition} (tip : s.tip = some t)
    (ring : ringCode t.ring ≤ 5) (sector : t.sector < 12) (band : bandCode t.band ≤ 6)
    (fall : ∀ f, t.fallSector = some f → f < 12) (used : ∀ u, t.utilization = some u → u ≤ 2000) (net : t.net ≤ 20000)
    (reach : t.reach ≤ 15000) (slew : t.slew ≤ 3599) :
    let r := statusRecord windowOpen s
    bitField (u8At r 16) 4 3 = ringCode t.ring ∧ bitField (u8At r 16) 0 4 = t.sector
      ∧ bitField (u8At r 17) 4 3 = bandCode t.band ∧ bitField (u8At r 17) 0 4 = t.fallSector.getD 15
      ∧ u16At r 18 = t.utilization.getD 65535 ∧ u16At r 20 = t.net ∧ u16At r 22 = t.reach ∧ u16At r 24 = t.slew := by
  have bytes := statusRecord_tip windowOpen s
  rw [tip] at bytes
  obtain ⟨byte0, byte1, word2, word4, word6, word8⟩ := tipBytes_some t
  have words : ∀ k, u16At (statusRecord windowOpen s) (16 + k) = u16At (tipBytes (some t)) k := fun k => by
    simp only [u16At, Nat.add_assoc, bytes]
  have utilization := getD_lt_65536 used (by decide)
  have fallSector : t.fallSector.getD 15 ≤ 15 := by
    cases present : t.fallSector with
    | none => exact le_refl _
    | some f =>
      have := fall f present
      simp only [Option.getD_some]
      omega
  intro r
  rw [bytes 0, bytes 1, words 2, words 4, words 6, words 8, byte0, byte1, word2, word4, word6, word8]
  generalize t.fallSector.getD 15 = fallen at fallSector
  generalize t.utilization.getD 65535 = utilized at utilization
  simp only [bitField]
  refine ⟨?_, ?_, ?_, ?_, ?_, ?_, ?_, ?_⟩ <;> omega

/-! ### Lift record, tally record and totals record -/

/-- The fields of a lift record of its ranges (R78, R169). -/
theorem liftRecordBytes_fields {r : LiftRecord} (assortment : r.assortment < 12) (band : bandCode r.band ≤ 6)
    (pick : r.pickTime ≤ 1048575) (time : r.liftTime ≤ 1048575)
    (weighing : ∀ w, r.weighing = some w → w.weight ≤ 20000 ∧ w.spread ≤ 20000 ∧ w.reach ≤ 15000) :
    let b := liftRecordBytes r
    b.length = 19 ∧ u16At b 0 = r.sequence.toNat
      ∧ bitField (u8At b 2) 7 1 = flagBit r.holdSeen ∧ bitField (u8At b 2) 6 1 = flagBit r.overloadSeen
      ∧ bitField (u8At b 2) 0 3 = kindCode r.kind ∧ u8At b 3 = r.assortment
      ∧ u16At b 4 = (r.weighing.map (·.weight)).getD 65535 ∧ u16At b 6 = (r.weighing.map (·.spread)).getD 65535
      ∧ u16At b 8 = (r.weighing.map (·.reach)).getD 65535
      ∧ u8At b 10 = (cellByte r.gripCell).toNat
      ∧ u8At b 11 = ((r.releaseCell.map cellByte).getD 255).toNat
      ∧ u8At b 12 = bandCode r.band
      ∧ u8At b 13 * 65536 + u16At b 14 = r.pickTime ∧ u8At b 16 * 65536 + u16At b 17 = r.liftTime := by
  have sequence := r.sequence.isLt
  have hold := flagBit_le r.holdSeen
  have overload := flagBit_le r.overloadSeen
  have kind := kindCode_le r.kind
  have weight : (r.weighing.map (·.weight)).getD 65535 < 65536 :=
    getD_lt_65536 (limit := 20000) (by simpa using fun w present => (weighing w present).1) (by decide)
  have spread : (r.weighing.map (·.spread)).getD 65535 < 65536 :=
    getD_lt_65536 (limit := 20000) (by simpa using fun w present => (weighing w present).2.1) (by decide)
  have reach : (r.weighing.map (·.reach)).getD 65535 < 65536 :=
    getD_lt_65536 (limit := 15000) (by simpa using fun w present => (weighing w present).2.2) (by decide)
  simp only [liftRecordBytes, optional16]
  generalize (r.weighing.map (·.weight)).getD 65535 = weight' at weight
  generalize (r.weighing.map (·.spread)).getD 65535 = spread' at spread
  generalize (r.weighing.map (·.reach)).getD 65535 = reach' at reach
  simp only [bytes16, bytes24, List.cons_append, List.nil_append, u16At, u8At_cons_zero, u8At_cons_succ, byteOf_toNat,
    bitField]
  refine ⟨rfl, ?_, ?_, ?_, ?_, ?_, ?_, ?_, ?_, trivial, rfl, ?_, ?_, ?_⟩ <;> omega

/-- The fields of a cell byte inside the Zone Map (R169). -/
theorem cellByte_fields {ring sector : Nat} (row : ring < 5) (column : sector < 12) :
    bitField (cellByte (.at_ ring sector)).toNat 4 3 = ring ∧ bitField (cellByte (.at_ ring sector)).toNat 0 4 = sector := by
  simp only [cellByte, byteOf_toNat, bitField]
  omega

/-- The fields of a tally record of its ranges (R97, R169). -/
theorem tallyBytes_fields (b : TableSet) {i : Nat} {t : Tally} (index : i < 12) (mass : t.mass ≤ 999999)
    (loaded : t.loaded ≤ 65535) (unloaded : t.unloaded ≤ 65535) (unweighed : t.unweighed ≤ 65535) :
    let r := tallyBytes b i t
    r.length = 15 ∧ u8At r 0 = i ∧ u32At r 1 = t.mass ∧ u16At r 5 = t.loaded ∧ u16At r 7 = t.unloaded
      ∧ u16At r 9 = t.unweighed ∧ u8At r 11 = flagBit (b.assortmentEnabled i)
      ∧ ∀ k, k < 3 → u8At r (12 + k) = b.byte .assortments i (1 + k) := by
  have enabled := flagBit_le (b.assortmentEnabled i)
  have code : ∀ k, k < 3 → u8At (tallyBytes b i t) (12 + k) = b.byte .assortments i (1 + k) := by
    intro k place
    have byte := b.byte_lt .assortments i (1 + k)
    interval_cases k <;>
    · simp only [tallyBytes, TableSet.assortmentCode, List.map_cons, bytes16, bytes32, List.cons_append, List.nil_append,
        u8At_cons_succ, u8At_cons_zero, byteOf_toNat]
      exact Nat.mod_eq_of_lt byte
  refine ⟨rfl, ?_, ?_, ?_, ?_, ?_, ?_, code⟩ <;>
  · simp only [tallyBytes, bytes16, bytes32, List.cons_append, List.nil_append, u32At, u16At, u8At_cons_zero, u8At_cons_succ,
      byteOf_toNat]
    omega

/-- The fields of the totals record of tallies of their ranges (R95, R97, R169). -/
theorem totalsBytes_fields {u : TallyUnit} (twelve : u.tallies.length = 12)
    (range : ∀ t ∈ u.tallies, t.mass ≤ 999999 ∧ t.loaded ≤ 65535 ∧ t.unloaded ≤ 65535 ∧ t.unweighed ≤ 65535)
    (timer : u.workTimer ≤ 4294967295) :
    let r := totalsBytes u
    r.length = 21 ∧ u8At r 0 = 12 ∧ u32At r 1 = (u.tallies.map (·.mass)).sum
      ∧ u32At r 5 = (u.tallies.map (·.loaded)).sum ∧ u32At r 9 = (u.tallies.map (·.unloaded)).sum
      ∧ u32At r 13 = (u.tallies.map (·.unweighed)).sum ∧ u32At r 17 = u.workTimer / 100 := by
  have mass := sum_le_of_twelve twelve (f := (·.mass)) fun t member => (range t member).1
  have loaded := sum_le_of_twelve twelve (f := (·.loaded)) fun t member => (range t member).2.1
  have unloaded := sum_le_of_twelve twelve (f := (·.unloaded)) fun t member => (range t member).2.2.1
  have unweighed := sum_le_of_twelve twelve (f := (·.unweighed)) fun t member => (range t member).2.2.2
  simp only [totalsBytes, TallyUnit.bunkTotal, totalsIndex]
  generalize (u.tallies.map (·.mass)).sum = mass' at mass
  generalize (u.tallies.map (·.loaded)).sum = loaded' at loaded
  generalize (u.tallies.map (·.unloaded)).sum = unloaded' at unloaded
  generalize (u.tallies.map (·.unweighed)).sum = unweighed' at unweighed
  simp only [bytes16, bytes32, List.cons_append, List.nil_append, u32At, u16At, u8At_cons_zero, u8At_cons_succ, byteOf_toNat]
  refine ⟨rfl, trivial, ?_, ?_, ?_, ?_, ?_⟩ <;> omega

/-- Settles O10, record by record. -/
theorem recordsStandInTheirLayouts : Obligations.RecordsStandInTheirLayouts := by
  refine ⟨fun windowOpen s flags selected tare records tip => ?_, fun r assortment band pick time weighing =>
    liftRecordBytes_fields assortment band pick time weighing, fun ring sector => cellByte_fields, rfl,
    fun b i t index mass loaded unloaded unweighed => tallyBytes_fields b index mass loaded unloaded unweighed,
    fun u twelve range timer => totalsBytes_fields twelve range timer,
    ⟨rfl, rfl, rfl, rfl, rfl, fun n => ⟨rfl, rfl⟩, rfl, rfl, rfl, rfl⟩, fun b k => ⟨rfl, rfl, rfl⟩, fun n lo width => rfl,
    fun n => ⟨byteOf_toNat n, rfl, rfl⟩⟩
  have length : (statusRecord windowOpen s).length = 26 := by
    simp [statusRecord, bytes16, bytes32, tipBytes_length]
  obtain ⟨f1, f2, f3, f4, f5, f6, f7, f8, f9, f10, f11, f12, f13, f14, f15, f16, f17, f18⟩ :=
    statusRecord_fields windowOpen flags selected tare records
  refine ⟨length, f1, f2, f3, f4, f5, f6, f7, f8, f9, f10, f11, f12, f13, f14, f15, f16, f17, f18,
    fun none k => statusRecord_noTip windowOpen none, fun t some => ?_⟩
  obtain ⟨ring, sector, band, fall, used, net, reach, slew⟩ := tip t some
  exact statusRecord_someTip windowOpen some ring sector band fall used net reach slew

end Sys2Proof.Machine

/-! PROOFS. Malformed commands are refused, and COMMAND frames are routed (spec/06, R105, R107, R109, R111, R117, R156, R158,
R160, R168) -/

namespace Sys2Proof.Machine

/-! ### Malformed commands (R156, R158, R168) -/

/-- A command with another number of arguments than it has is refused (R156, R168). -/
theorem judgeCommand_malformed {c : CommandId} {n : Nat} (count : argumentCount c = some n) {args : Bytes}
    (other : args.length ≠ n) (windowOpen : Bool) (s : State) :
    judgeCommand windowOpen c args s = s.refuse .badArgument := by
  cases c with
  | tableData => exact nomatch count
  | _ =>
    cases count
    exact if_pos other

/-- The pins that a row samples change nothing that a command is taken by. -/
theorem State.Takes.sampledFor {s : State} {p : Packet} (h : s.Takes p) (c : CommandId) (pins : Pins) :
    (s.sampledFor c pins).Takes p := by
  cases c <;> exact h

/-- A first byte names the command whose identifier it is (R158, R168). -/
theorem commandOfPayload_cons_iff {b : Byte} {args : Bytes} {c : CommandId} :
    commandOfPayload (b :: args) = some c ↔ commandCode c = b :=
  ⟨commandCode_of_byte, fun code => by rw [← code, commandOfPayload_code]⟩

/-- TABLE DATA with an open window and no whole number of entries is refused (R139). -/
theorem judgeTableData_malformed {s : State} {w : Window} (store : s.store.state ≠ .reloading)
    (window : s.unit.window = some w) {args : Bytes} (bad : args.length = 0 ∨ args.length % w.table.entrySize ≠ 0) :
    judgeTableData args s = s.refuse .badArgument := by
  unfold judgeTableData
  rw [if_neg store, window]
  exact if_pos bad

/-- Settles O13, by the judgements of a payload that names no command, of a wrong number of arguments and of TABLE DATA. -/
theorem malformedCommandsRefused : Obligations.MalformedCommandsRefused := by
  refine ⟨fun s p takes short unknown => ?_, fun c n s p pins count takes short other => ?_,
    fun s p w takes short store window bad => ?_, fun b args c => commandOfPayload_cons_iff, rfl, rfl, rfl, rfl⟩
  · obtain ⟨linked, reading, pending, slot, dest⟩ := takes
    have ran : exec (.unknownCommand p) s
        = commandEvent (frameOf classCommand p) (judgePayload s.unit.window.isSome p.body) s := rfl
    have judged : judgePayload s.unit.window.isSome p.body = judgeUnknown := by simp [judgePayload, unknown]
    have closes : s.windowStep p.body = s.closeWindow := by simp [State.windowStep, unknown]
    have notPending : s.closeWindow.unit.lineResetPending = false := pending
    rw [ran, commandEvent_addressed short reading pending slot (.inl ⟨linked, dest⟩), judged, takeCommand_eq]
    change Host.Outcome.next ((judgeUnknown (s.windowStep p.body)).state.placeReply
      (replyOf (frameOf classCommand p) (judgeUnknown (s.windowStep p.body)))).driveAttn = _
    rw [closes]
    have origin : replyOf (frameOf classCommand p) (judgeUnknown s.closeWindow)
        = ⟨replyFrame (frameOf classCommand p) (judgeUnknown s.closeWindow),
          if s.closeWindow.unit.lineResetPending then .lineResetReply else .reply⟩ := rfl
    rw [origin, notPending]
    rfl
  · have closes : c ≠ .tableData := by
      rintro rfl
      exact nomatch count
    rw [exec_commandRow, commandEvent_closed _ closes (takes.sampledFor c pins) short,
      judgeCommand_malformed count other, State.refuse_ends]
  · have ran : exec (.tableData p) s = commandEvent (commandFrame .tableData p) (judgeTableData p.body) s := rfl
    rw [ran, commandEvent_taken .tableData _ takes short, windowStep_tableData, judgeTableData_malformed store window bad,
      State.refuse_ends]

end Sys2Proof.Machine

/-! PROOFS. What becomes of COMMAND frames that are not taken (spec/06, R105, R107, R109, R111, R117, R160) -/

namespace Sys2Proof.Machine

/-- The Router's dispositions of a COMMAND frame, for a row that works on the state `u` with its pins sampled and whose
broadcast leaves the state `v` (R105, R107, R109, R111, R117, R160). -/
theorem commandRouted_of_event {i : Instr} {f : Frame} {judge : State → Answer} {discovery : Prop} {s u v : State}
    (short : f.payload.length ≤ 28) (ran : exec i s = commandEvent f judge u) (router : u.router = s.router)
    (unit : u.unit = s.unit) (store : u.store = s.store)
    (discovers : discovery ↔ f.dest = discoveryAddress ∧ commandOfPayload f.payload = some .assignAddress ∧ u.pins.csi = true)
    (broadcast : takeBroadcast f judge u = v) : CommandRouted i f discovery s u v := by
  have routed : s.store.reading = false → exec i s = .next (routeCommand f judge u).driveAttn := fun reading => by
    rw [ran, commandEvent, finish, cabPort_routed short (by rwa [store])]
  have handed : (s.router.link = .linked ∧ f.dest = s.router.nodeAddress) ∨ (s.router.link = .dark ∧ discovery) →
      routeCommand f judge u = handCommand f judge u := by
    rintro (⟨linked, dest⟩ | ⟨dark, found⟩)
    · exact routeCommand_handed (by rwa [router]) (by rwa [router])
    · have address := discovers.mp found
      simp [routeCommand, router, dark, address]
  refine ⟨fun reading => ?_, fun reading => ⟨fun dark lost => ?_, fun addressed pending => ?_,
    fun addressed pending slot => ?_, fun linked other alone => ?_, fun linked other all => ?_⟩⟩
  · rw [ran, commandEvent, finish, cabPort_reading short (by rwa [store])]
  · rw [routed reading]
    have discarded : routeCommand f judge u = u := by
      unfold routeCommand
      rw [router, dark]
      exact if_neg fun found => lost (discovers.mpr found)
    rw [discarded]
  · rw [routed reading, handed addressed, handCommand, if_pos (by rwa [unit])]
  · rw [routed reading, handed addressed, handCommand, if_neg (by rw [unit, pending]; decide), if_pos (by rwa [unit])]
  · rw [routed reading]
    have forwards : routeCommand f judge u = u.forwardCrane f := by
      unfold routeCommand
      rw [router, linked]
      exact (if_neg other).trans (if_neg alone)
    rw [forwards]
  · rw [routed reading]
    have forwards : routeCommand f judge u = (takeBroadcast f judge u).forwardCrane f := by
      unfold routeCommand
      rw [router, linked]
      exact (if_neg other).trans (if_pos all)
    rw [forwards, broadcast]

/-- The broadcasts that the Command Unit takes are GUARD STOP, PARK and PARK EXIT without arguments (R111). -/
theorem permittedBroadcast_iff {c : CommandId} {args : Bytes} :
    permittedBroadcast (commandCode c :: args) = true
      ↔ (c = .guardStop ∨ c = .park ∨ c = .parkExit) ∧ args = [] := by
  have same : ∀ d, commandCode c = commandCode d ↔ c = d := fun d => ⟨commandCode_inj, fun e => by rw [e]⟩
  simp only [permittedBroadcast, Bool.or_eq_true, beq_iff_eq, List.cons.injEq, same]
  tauto

/-- A permitted broadcast does what GUARD STOP, PARK and PARK EXIT do (R44, R48, R49, R111). -/
theorem judgeCommand_broadcast {c : CommandId} (permitted : c = .guardStop ∨ c = .park ∨ c = .parkExit) (windowOpen : Bool)
    (s : State) : (judgeCommand windowOpen c [] s).state = broadcastEffect c s := by
  obtain rfl | rfl | rfl := permitted
  · rfl
  · rfl
  · simp only [judgeCommand, judgeParkExit, broadcastEffect]
    by_cases parked : s.guard.state = .park
    · by_cases valid : s.banks.activeValid = true <;> simp [parked, valid, State.done]
    · simp [parked, State.refuse]

/-- What a broadcast of a command with a row leaves (R111). -/
theorem takeBroadcast_commandFrame (c : CommandId) (p : Packet) (windowOpen : Bool) (u : State) :
    takeBroadcast (commandFrame c p) (judgeCommand windowOpen c p.body) u
      = if (c = .guardStop ∨ c = .park ∨ c = .parkExit) ∧ p.body = [] ∧ u.unit.lineResetPending = false then
          broadcastEffect c u.closeWindow
        else u := by
  have permitted : (permittedBroadcast (commandFrame c p).payload && !u.unit.lineResetPending) = true
      ↔ (c = .guardStop ∨ c = .park ∨ c = .parkExit) ∧ p.body = [] ∧ u.unit.lineResetPending = false := by
    rw [Bool.and_eq_true, Bool.not_eq_true', show (commandFrame c p).payload = commandCode c :: p.body from rfl,
      permittedBroadcast_iff, and_assoc]
  unfold takeBroadcast
  by_cases takes : (c = .guardStop ∨ c = .park ∨ c = .parkExit) ∧ p.body = [] ∧ u.unit.lineResetPending = false
  · have ⟨stops, body, _⟩ := takes
    have closes : c ≠ .tableData := by
      rintro rfl
      simp at stops
    rw [if_pos (permitted.mpr takes), if_pos takes, windowStep_closes closes, body, judgeCommand_broadcast stops]
  · rw [if_neg (mt permitted.mp takes), if_neg takes]

/-- Settles O14: the Router's dispositions for the rows of the commands, and for a payload that names none. -/
theorem commandFramesRouted : Obligations.CommandFramesRouted := by
  refine ⟨fun c p pins s short => ?_, fun p s short unknown => ?_⟩
  · intro u
    have sampled : u.router = s.router ∧ u.unit = s.unit ∧ u.store = s.store := by
      cases c <;> exact ⟨rfl, rfl, rfl⟩
    obtain ⟨router, unit, store⟩ := sampled
    have frame : (commandFrame c p).payload.length ≤ 28 := by
      rw [commandFrame_payload_length]
      omega
    refine commandRouted_of_event frame (exec_commandRow c p pins s) router unit store ?_ ?_
    · rw [show (commandFrame c p).payload = commandCode c :: p.body from rfl, commandOfPayload_code, Option.some.injEq,
        show (commandFrame c p).dest = p.dest from rfl, discoveryAddress]
      constructor
      · rintro ⟨rfl, dest, level⟩
        exact ⟨dest, rfl, level⟩
      · rintro ⟨dest, rfl, level⟩
        exact ⟨rfl, dest, level⟩
    · rw [takeBroadcast_commandFrame, unit]
  · have ran : exec (.unknownCommand p) s
        = commandEvent (frameOf classCommand p) (judgePayload s.unit.window.isSome p.body) s := rfl
    refine commandRouted_of_event short ran rfl rfl rfl ?_ ?_
    · rw [show (frameOf classCommand p).payload = p.body from rfl, unknown]
      simp
    · have forbidden : permittedBroadcast p.body = false := by
        cases body : p.body with
        | nil => rfl
        | cons b args =>
          by_contra permitted
          rw [Bool.not_eq_false] at permitted
          simp only [permittedBroadcast, Bool.or_eq_true, beq_iff_eq, List.cons.injEq] at permitted
          rw [body] at unknown
          have named : ∀ c, b ≠ commandCode c := fun c code => by
            rw [code, commandOfPayload_code] at unknown
            exact nomatch unknown
          simp [named] at permitted
      unfold takeBroadcast
      rw [show (frameOf classCommand p).payload = p.body from rfl, forbidden]
      rfl

end Sys2Proof.Machine

/-! PROOFS. Frames on the line: output queues, reception, bad frames (spec/06, spec/11, R102 to R105, R113 to R116, R167) -/

namespace Sys2Proof.Machine

/-! ### Output queues (R113 to R116) -/

/-- A reply that waits joins the queue where there is room (R116). -/
theorem State.replyJoins_some {s : State} {r : OutFrame} (waits : s.unit.replySlot = some r)
    (room : s.line.cabQueue.length < queueLimit) :
    s.replyJoins
      = { s with
          line := { s.line with cabQueue := s.line.cabQueue ++ [r] }
          unit := { s.unit with replySlot := none } } := by
  simp only [State.replyJoins, waits, if_pos room]

/-- Without a waiting reply nothing joins. -/
theorem State.replyJoins_none {s : State} (empty : s.unit.replySlot = none) : s.replyJoins = s := by
  simp only [State.replyJoins, empty]

/-- A departure that is not the line reset's reply frees a place (R113, R116, R161). -/
theorem State.cabDeparts_cons {s : State} {f : OutFrame} {rest : List OutFrame} (queue : s.line.cabQueue = f :: rest)
    (other : ¬(s.unit.lineResetPending = true ∧ f.origin = .lineResetReply)) :
    s.cabDeparts = ({ s with line := { s.line with cabQueue := rest } } : State).replyJoins := by
  have first : ¬s.resetReplyFirst = true := by
    simpa [State.resetReplyFirst, queue] using other
  simp only [State.cabDeparts, queue, if_neg first]

/-- Settles O15: the queues at a frame and at a reply, and the places that departures free. -/
theorem outputQueuesOfFourFrames : Obligations.OutputQueuesOfFourFrames := by
  refine ⟨fun s f r => ⟨fun room => if_pos room, fun full => if_neg (Nat.not_lt.mpr full), fun room => if_pos room,
    fun full => if_neg (Nat.not_lt.mpr full), fun room => if_pos room, fun full => if_neg (Nat.not_lt.mpr full)⟩,
    fun s => ⟨fun f rest queue => ?_, fun f rest queue room other => ?_, fun r waits room => ?_⟩⟩
  · have departs : s.craneDeparts = { s with line := { s.line with craneQueue := rest } } := by
      simp [State.craneDeparts, queue]
    have ran : exec (.frameDeparts .crane) s = finish s.craneDeparts := rfl
    rw [ran, departs, finish_next]
  · have ran : exec (.frameDeparts .cab) s = finish s.cabDeparts := rfl
    rw [ran, State.cabDeparts_cons queue other]
    refine ⟨fun empty => ?_, fun r waits => ?_⟩
    · rw [State.replyJoins_none (s := { s with line := { s.line with cabQueue := rest } }) empty, finish_next]
    · rw [State.replyJoins_some (s := { s with line := { s.line with cabQueue := rest } }) waits room, finish_next]
  · have ran : exec .replyJoinsQueue s = finish s.replyJoins := rfl
    rw [ran, State.replyJoins_some waits room, finish_next]

/-! ### The bytes of a frame (R102, R103, R167) -/

/-- The value of an address byte (R167). -/
theorem addressByte_toNat (x : BitVec 3) (y : BitVec 5) : (x ++ y).toNat = x.toNat * 32 + y.toNat := by
  rw [BitVec.toNat_append, ← Nat.shiftLeft_add_eq_or_of_lt y.isLt, Nat.shiftLeft_eq]

/-- The values of the two fields of an address byte (R167). -/
theorem extract_toNat (b : Byte) :
    (b.extractLsb' 5 3).toNat = b.toNat / 32 ∧ (b.extractLsb' 0 5).toNat = b.toNat % 32 := by
  have byte := b.isLt
  simp only [BitVec.extractLsb'_toNat, Nat.shiftRight_eq_div_pow]
  omega

/-- The two fields of an address byte make it up again. -/
theorem addressByte_fields (b : Byte) : b.extractLsb' 5 3 ++ b.extractLsb' 0 5 = b := by
  apply BitVec.eq_of_toNat_eq
  rw [addressByte_toNat, (extract_toNat b).1, (extract_toNat b).2]
  omega

/-- The high field of an address byte. -/
theorem addressByte_high (x : BitVec 3) (y : BitVec 5) : (x ++ y).extractLsb' 5 3 = x := by
  have low := y.isLt
  apply BitVec.eq_of_toNat_eq
  rw [(extract_toNat (x ++ y)).1, addressByte_toNat]
  omega

/-- The low field of an address byte. -/
theorem addressByte_low (x : BitVec 3) (y : BitVec 5) : (x ++ y).extractLsb' 0 5 = y := by
  have low := y.isLt
  apply BitVec.eq_of_toNat_eq
  rw [(extract_toNat (x ++ y)).2, addressByte_toNat]
  omega

/-- A frame has four bytes more than its payload (R102). -/
theorem Frame.bytes_length (f : Frame) : f.bytes.length = f.payload.length + 4 := by
  simp [Frame.bytes, Frame.checked, Frame.header]

/-- The bytes of a frame, one by one (R167). -/
theorem Frame.bytes_eq (f : Frame) :
    f.bytes = (f.cls ++ f.dest) :: (f.spare ++ f.src) :: byteOf f.payload.length :: (f.payload ++ [crc8 f.checked]) := rfl

/-- The fields read back from the bytes of a frame are the frame's (R167). -/
theorem frameFields_bytes (f : Frame) : frameFields f.bytes = f := by
  simp [frameFields, Frame.bytes_eq, addressByte_high, addressByte_low]

/-- The bytes of the fields read from good bytes are those bytes (R104, R167). -/
theorem bytes_frameFields {bs : Bytes} (length : u8At bs 2 + 4 = bs.length) (check : crc8 bs.dropLast = bs.getLastD 0) :
    (frameFields bs).bytes = bs := by
  match bs with
  | [] | [_] | [_, _] | [_, _, _] => simp at length
  | b0 :: b1 :: b2 :: b3 :: rest =>
    have two : b2.toNat = rest.length := by
      have at2 : u8At (b0 :: b1 :: b2 :: b3 :: rest) 2 = b2.toNat := rfl
      rw [at2] at length
      simp only [List.length_cons] at length
      omega
    have payload : (frameFields (b0 :: b1 :: b2 :: b3 :: rest)).payload = (b3 :: rest).dropLast := rfl
    have count : byteOf (b3 :: rest).dropLast.length = b2 := by
      rw [List.length_dropLast, List.length_cons, Nat.add_sub_cancel, ← two]
      simp [byteOf]
    have checked : (frameFields (b0 :: b1 :: b2 :: b3 :: rest)).checked = b0 :: b1 :: b2 :: (b3 :: rest).dropLast := by
      simp only [Frame.checked, Frame.header, payload, count]
      simp [frameFields, addressByte_fields]
    rw [Frame.bytes, checked]
    have same : b0 :: b1 :: b2 :: (b3 :: rest).dropLast = (b0 :: b1 :: b2 :: b3 :: rest).dropLast := rfl
    rw [same, check]
    have last := List.dropLast_append_getLast (l := b0 :: b1 :: b2 :: b3 :: rest) (by simp)
    rwa [List.getLast_eq_getLastD] at last

end Sys2Proof.Machine

/-! PROOFS. Reception at either port (spec/06, spec/11, R103 to R105, R107, R109, R112, R167) -/

namespace Sys2Proof.Machine

/-! ### The tests of a reception (R103, R104) -/

/-- The tests of a reception, one by one (R104). -/
theorem goodReception_iff (rx : List RxByte) :
    goodReception rx = true
      ↔ 4 ≤ rx.length ∧ rx.length ≤ 32 ∧ u8At (rx.map (·.value)) 2 ≤ 28 ∧ u8At (rx.map (·.value)) 2 + 4 = rx.length
        ∧ crc8 (rx.map (·.value)).dropLast = (rx.map (·.value)).getLastD 0 ∧ ∀ b, b ∈ rx → b.malformed = false := by
  simp [goodReception, and_assoc]

/-- A good reception hands on the fields of its bytes (R104). -/
theorem receiveFrame_eq_some_iff {rx : List RxByte} {f : Frame} :
    receiveFrame rx = some f ↔ goodReception rx = true ∧ frameFields (rx.map (·.value)) = f := by
  unfold receiveFrame
  split <;> simp_all

/-- The receiver collects the bytes of a frame (R104). -/
theorem onWire_values (f : Frame) : (onWire f).map (·.value) = f.bytes := by
  rw [onWire, List.map_map]
  exact List.map_id _

/-- A frame on the line passes the tests (R104). -/
theorem goodReception_onWire {f : Frame} (short : f.payload.length ≤ 28) : goodReception (onWire f) = true := by
  have length : (onWire f).length = f.payload.length + 4 := by rw [onWire, List.length_map, Frame.bytes_length]
  have count : u8At f.bytes 2 = f.payload.length := by
    change (byteOf f.payload.length).toNat = _
    rw [byteOf_toNat]
    omega
  have dropped : f.bytes.dropLast = f.checked := List.dropLast_concat
  have last : f.bytes.getLastD 0 = crc8 f.checked := List.getLastD_concat
  rw [goodReception_iff, onWire_values, length, count, dropped, last]
  refine ⟨by omega, by omega, short, rfl, rfl, fun b member => ?_⟩
  obtain ⟨x, -, rfl⟩ := List.mem_map.mp member
  rfl

/-- A frame sent is received (R102 to R104). -/
theorem receiveFrame_onWire {f : Frame} (short : f.payload.length ≤ 28) : receiveFrame (onWire f) = some f :=
  receiveFrame_eq_some_iff.mpr ⟨goodReception_onWire short, by rw [onWire_values, frameFields_bytes]⟩

/-- A frame received has a payload of at most 28 bytes, and stood on the line (R102 to R104). -/
theorem receiveFrame_sent {rx : List RxByte} {f : Frame} (received : receiveFrame rx = some f) :
    f.payload.length ≤ 28 ∧ f.bytes = rx.map (·.value) := by
  obtain ⟨good, rfl⟩ := receiveFrame_eq_some_iff.mp received
  obtain ⟨-, -, small, length, check, -⟩ := (goodReception_iff rx).mp good
  have values := bytes_frameFields (by simpa using length) check
  have total := congrArg List.length values
  rw [Frame.bytes_length, List.length_map] at total
  exact ⟨by omega, values⟩

/-- Settles O16: a frame sent and a frame received, the bytes of a frame, and the check byte by byte. -/
theorem receptionReturnsTheFrameSent : Obligations.ReceptionReturnsTheFrameSent := by
  refine ⟨fun f => receiveFrame_onWire, fun rx f => receiveFrame_sent, fun f short => ⟨addressByte_toNat _ _,
    addressByte_toNat _ _, ?_, f.bytes_length, ?_⟩, rfl, fun bytes b => ?_⟩
  · change (byteOf f.payload.length).toNat = _
    rw [byteOf_toNat]
    omega
  · have checked : f.bytes.take (3 + f.payload.length) = f.checked := by
      simp [Frame.bytes, Frame.checked, Frame.header, Nat.add_comm 3]
    rw [checked]
    rfl
  · have shift : crc8Shift = fun r : BitVec 8 => if 2 ^ 7 ≤ r.toNat then (r <<< 1) ^^^ 0x1D#8 else r <<< 1 := by
      funext r
      simp [crc8Shift, BitVec.msb_eq_decide]
    rw [← shift, crc8, List.foldl_append]
    rfl

/-! ### Bad frames (R104) -/

/-- Settles O17: the tests of a reception, and what either port does with a bad one or with none. -/
theorem badFramesLatchTheirPort : Obligations.BadFramesLatchTheirPort := by
  refine ⟨fun rx => ?_, fun rx pins s some none => ?_, fun pins s => ⟨rfl, rfl⟩⟩
  · rw [← goodReception_iff]
    unfold receiveFrame
    split <;> simp_all
  · have bytes : rx.isEmpty = false := by simpa using some
    have cab : exec (.cabPortFrame rx pins) s = finish (cabReception rx pins s) := rfl
    have crane : exec (.cranePortFrame rx) s = finish (craneReception rx s) := rfl
    rw [cab, crane, cabReception, craneReception, bytes, none]
    exact ⟨rfl, rfl⟩

/-! ### Good frames reach their rows (R105, R107, R109, R112) -/

/-- A frame sent to the Cab Port is disposed of by the Router, with the pins sampled (R104, R109). -/
theorem exec_cabPortFrame_onWire {f : Frame} (short : f.payload.length ≤ 28) (pins : Pins) (s : State) :
    exec (.cabPortFrame (onWire f) pins) s = finish (cabPort f (routeCab f) (s.samplePins pins)) := by
  have ran : exec (.cabPortFrame (onWire f) pins) s = finish (cabReception (onWire f) pins s) := rfl
  have bytes : (onWire f).isEmpty = false := rfl
  rw [ran, cabReception, bytes, receiveFrame_onWire short]
  rfl

/-- A frame sent to the Crane Port is disposed of by the Router (R104, R112). -/
theorem exec_cranePortFrame_onWire {f : Frame} (short : f.payload.length ≤ 28) (s : State) :
    exec (.cranePortFrame (onWire f)) s = finish (routeCrane f s) := by
  have ran : exec (.cranePortFrame (onWire f)) s = finish (craneReception (onWire f) s) := rfl
  have bytes : (onWire f).isEmpty = false := rfl
  have routed : cranePort f (routeCrane f) s = routeCrane f s := if_neg (Nat.not_lt.mpr short)
  rw [ran, craneReception, bytes, receiveFrame_onWire short]
  change finish (cranePort f (routeCrane f) s) = _
  rw [routed]

/-- Pins that are sampled already are as a row samples them (R47, R107). -/
theorem State.sampledFor_samplePins (s : State) (c : CommandId) (pins : Pins) :
    (s.samplePins pins).sampledFor c pins = s.samplePins pins := by
  by_cases service : s.guard.state = .service <;> cases c <;> simp [State.sampledFor, State.samplePins, service]

/-- Settles O18: the Router's cases by frame class, and the pins as they are sampled. -/
theorem receivedFramesReachTheirRows : Obligations.ReceivedFramesReachTheirRows := by
  refine ⟨fun p pins s => ⟨fun c short => ?_, fun short => ⟨fun unknown => ?_, ?_, ?_, ?_⟩⟩, fun f pins s short =>
    ⟨fun command sync demand => ?_, fun sample => ?_⟩, fun s p => rfl⟩
  · have frame : (commandFrame c p).payload.length ≤ 28 := by
      rw [commandFrame_payload_length]
      omega
    have named : judgePayload (s.samplePins pins).unit.window.isSome (commandFrame c p).payload
        = judgeCommand (s.samplePins pins).unit.window.isSome c p.body := by
      simp [judgePayload, commandFrame]
    have route : routeCab (commandFrame c p) (s.samplePins pins)
        = routeCommand (commandFrame c p) (judgeCommand (s.samplePins pins).unit.window.isSome c p.body) (s.samplePins pins) :=
      (if_pos rfl).trans (by rw [named])
    rw [exec_cabPortFrame_onWire frame, exec_commandRow, State.sampledFor_samplePins, commandEvent]
    simp only [cabPort, route]
  · rw [exec_cabPortFrame_onWire short]
    rfl
  · rw [exec_cabPortFrame_onWire short]
    rfl
  · rw [exec_cabPortFrame_onWire short]
    rfl
  · rw [exec_cranePortFrame_onWire short]
    have row : exec (.sample p) s = finish (cranePort (frameOf classSample p) (routeSample (frameOf classSample p)) s) := rfl
    have routed : cranePort (frameOf classSample p) (routeSample (frameOf classSample p)) s
        = routeSample (frameOf classSample p) s := if_neg (Nat.not_lt.mpr short)
    rw [row, routed]
    rfl
  · rw [exec_cabPortFrame_onWire short, finish_next]
    have store : (s.samplePins pins).store = s.store := by simp
    have router : (s.samplePins pins).router = s.router := by simp
    congr 2
    cases reading : s.store.reading with
    | true =>
      rw [cabPort_reading short (by rw [store, reading]), if_pos (.inl rfl)]
    | false =>
      rw [cabPort_routed short (by rw [store, reading])]
      simp only [routeCab, if_neg command, if_neg sync, if_neg demand, routeOtherCrane, router]
      cases s.router.link <;> simp
  · rw [exec_cranePortFrame_onWire short, finish_next]
    congr 2
    simp only [routeCrane, if_neg sample]
    cases s.router.link <;> simp

end Sys2Proof.Machine

/-! PROOFS. The entry actions of a guard state and the disposition of DEMAND frames (spec/03, R37, R38, R52, R60 to R62,
R75, R80, R107, R110, R114) -/

namespace Sys2Proof.Machine

/-! ### Entry actions (R37, R75) -/

/-- Entry into HOLD with a load gripped: the hold is remembered and the clear count starts again (R75). -/
theorem LiftUnit.enterHold_of_gripped {u : LiftUnit} {c : LiftContext} (lifting : u.context = some c)
    (gripped : u.state = .gripped) :
    u.enterHold = { u with context := some { c with holdSeen := true }, clearCount := 0 } := by
  simp [LiftUnit.enterHold, lifting, gripped]

/-- Entry into HOLD with a load off the ground: the hold is remembered and the weigh window is emptied (R75). -/
theorem LiftUnit.enterHold_of_lifted {u : LiftUnit} {c : LiftContext} (lifting : u.context = some c)
    (lifted : u.state = .aloft ∨ u.state = .weighed) :
    u.enterHold = { u with context := some { c with holdSeen := true }, window := [] } := by
  rcases lifted with aloft | weighed
  · simp [LiftUnit.enterHold, lifting, aloft]
  · simp [LiftUnit.enterHold, lifting, weighed]

/-- Settles O21: an unchanged state is left alone; a changed one is the guard's own entry actions, the Lift Unit's for the
state entered, and the attempt of a pending commit. -/
theorem entryActionsInOrder : Obligations.EntryActionsInOrder := by
  intro s g byExpiry
  refine ⟨fun same => State.enterGuard_same same byExpiry, fun other => ?_, LiftUnit.enterHold_of_empty,
    fun c lifting => ⟨LiftUnit.enterHold_of_gripped lifting, LiftUnit.enterHold_of_lifted lifting⟩⟩
  rw [State.enterGuard_changed other]
  cases g with
  | blocked | hold | enforce | service | park => rfl

/-! ### The demands of a frame (R52, R60, R167) -/

/-- The eight demands are the payload's signed 16-bit fields. -/
theorem demandsOf_getElem? (payload : Bytes) {k : Nat} (slot : k < 8) :
    (demandsOf payload)[k]? = some (signed16 (u16At payload (2 * k))) := by
  simp [demandsOf, s16At, List.getElem?_range slot]

/-- The two bytes of a signed value hold its two's complement (R1). -/
theorem u16At_bytesSigned16_append (d : Int) (rest : Bytes) :
    u16At (bytesSigned16 d ++ rest) 0 = (BitVec.ofInt 16 d).toNat := by
  have bound := (BitVec.ofInt 16 d).isLt
  simp only [u16At, bytesSigned16, bytes16, List.cons_append, u8At_cons_zero, u8At_cons_succ, byteOf_toNat]
  omega

/-- A 16-bit field past the two bytes of a signed value. -/
theorem u16At_bytesSigned16_append_add (d : Int) (rest : Bytes) (k : Nat) :
    u16At (bytesSigned16 d ++ rest) (k + 2) = u16At rest k := by
  have shift (j : Nat) : u8At (bytesSigned16 d ++ rest) (j + 2) = u8At rest j :=
    (u8At_cons_succ _ _ _).trans (u8At_cons_succ _ _ _)
  rw [u16At, u16At, shift, show k + 2 + 1 = k + 1 + 2 by omega, shift]

/-- The fields of a row of signed values are their two's complements. -/
theorem u16At_signedRow (row : List Int) {k : Nat} (inside : k < row.length) :
    u16At (row.map bytesSigned16).flatten (2 * k) = (BitVec.ofInt 16 row[k]).toNat := by
  induction row generalizing k with
  | nil => exact absurd inside (Nat.not_lt_zero _)
  | cons d rest ih =>
    rw [List.map_cons, List.flatten_cons]
    cases k with
    | zero => exact u16At_bytesSigned16_append d _
    | succ k =>
      rw [show 2 * (k + 1) = 2 * k + 2 by omega, u16At_bytesSigned16_append_add]
      exact ih (Nat.lt_of_succ_lt_succ inside)

/-- A value within 16 signed bits is read back from its two's complement (R1). -/
theorem signed16_ofInt {d : Int} (small : d.natAbs ≤ 1000) : signed16 (BitVec.ofInt 16 d).toNat = d := by
  rw [BitVec.toNat_ofInt, signed16]
  split_ifs <;> omega

/-- The bytes of a row of signed values. -/
theorem signedRow_length (row : List Int) : (row.map bytesSigned16).flatten.length = 2 * row.length := by
  induction row with
  | nil => rfl
  | cons d rest ih =>
    have two : (bytesSigned16 d).length = 2 := rfl
    rw [List.map_cons, List.flatten_cons, List.length_append, ih, two, List.length_cons]
    omega

/-- The payload of a filtered frame is the row of the filtered demands. -/
theorem filteredFrame_payload (f : Frame) (out : List Filtered) :
    (filteredFrame f out).payload = ((out.map (·.value)).map bytesSigned16).flatten := by
  simp [filteredFrame, Function.comp_def]

/-- A frame that was filtered holds the filtered demands (R52). -/
theorem demandsOf_filteredFrame (f : Frame) {out : List Filtered} (eight : out.length = 8)
    (small : ∀ x, x ∈ out → x.value.natAbs ≤ 1000) : demandsOf (filteredFrame f out).payload = out.map (·.value) := by
  refine List.ext_getElem? fun k => ?_
  by_cases slot : k < 8
  · have inside : k < (out.map (·.value)).length := by simpa [eight] using slot
    rw [demandsOf_getElem? _ slot, filteredFrame_payload, u16At_signedRow _ inside, List.getElem?_eq_getElem inside,
      signed16_ofInt]
    simpa using small _ (List.getElem_mem (by omega))
  · have past : 8 ≤ k := Nat.le_of_not_lt slot
    simp [demandsOf, eight, past]

/-- The motion slots: by the Valve Map, and every slot in SERVICE with the active-valid flag clear (R54, R60). -/
theorem State.motionSlot_iff (s : State) (k : Nat) :
    s.motionSlot k = true
      ↔ s.banks.active.slotKind k ∈ motionKinds ∨ (s.guard.state = .service ∧ s.banks.activeValid = false) := by
  simp [State.motionSlot, TableSet.isMotion_iff]

/-- A filtered frame is still when every motion slot's demand is 0 (R60). -/
theorem State.allStill_iff (s : State) (out : List Filtered) :
    s.allStill out = true ↔ ∀ k x, out[k]? = some x → s.motionSlot k = true → x.value = 0 := by
  simp only [State.allStill, List.all_eq_true, List.mem_mapIdx, id_eq]
  constructor
  · intro still k x at_ moves
    obtain ⟨inside, rfl⟩ := List.getElem?_eq_some_iff.mp at_
    simpa [moves] using still _ ⟨k, inside, rfl⟩
  · rintro still _ ⟨k, inside, rfl⟩
    cases moves : s.motionSlot k with
    | false => rfl
    | true => simpa using still k _ (List.getElem?_eq_getElem inside) moves

/-! ### The disposition of a DEMAND frame (R107, R110) -/

/-- A frame at the Cab Port during an image read or of a DARK machine whose Router discards it does nothing
(R105, R107). -/
theorem cabPort_idle {f : Frame} {route : State → State} {s : State} (short : f.payload.length ≤ 28)
    (discards : s.router.link = .dark → route s = s) (idle : s.store.reading = true ∨ s.router.link = .dark) :
    cabPort f route s = s := by
  cases reading : s.store.reading with
  | true => exact cabPort_reading short reading
  | false =>
    rw [cabPort_routed short reading]
    exact discards (idle.resolve_left (by simp [reading]))

/-- Otherwise the machine is LINKED and no image read is in progress. -/
theorem State.routes_of_not_idle {s : State} (awake : ¬(s.store.reading = true ∨ s.router.link = .dark)) :
    s.store.reading = false ∧ s.router.link = .linked := by
  obtain ⟨reading, lit⟩ := not_or.mp awake
  refine ⟨Bool.eq_false_iff.mpr reading, ?_⟩
  cases link : s.router.link with
  | dark => exact absurd link lit
  | linked => rfl

/-- The valve block address: the configured one, or any other address than the two special ones and the own one where no
tables are active (R110). -/
theorem State.isValveAddress_eq_false_iff (s : State) (dest : BitVec 5) :
    s.isValveAddress dest = false
      ↔ (s.banks.activeValid = true ∧ dest.toNat ≠ s.banks.active.setting .valveAddress)
        ∨ (s.banks.activeValid = false ∧ (dest = 0 ∨ dest = 31 ∨ dest = s.router.nodeAddress)) := by
  cases valid : s.banks.activeValid with
  | true => simp [State.isValveAddress, valid]
  | false => simp [State.isValveAddress, valid, discoveryAddress, broadcastAddress, or_iff_not_imp_left]

/-- A DEMAND frame at the Router of a LINKED machine: rejected by its length and its address, or handed to the guard
(R110). -/
theorem routeDemand_linked {f : Frame} {s : State} (linked : s.router.link = .linked) :
    routeDemand f s
      = if f.payload.length ≠ 16
            ∨ (s.banks.activeValid = true ∧ f.dest.toNat ≠ s.banks.active.setting .valveAddress)
            ∨ (s.banks.activeValid = false ∧ (f.dest = 0 ∨ f.dest = 31 ∨ f.dest = s.router.nodeAddress)) then
          s.latch .valveReject
        else s.guardDemand f := by
  simp only [← State.isValveAddress_eq_false_iff]
  by_cases length : f.payload.length = 16
  · cases valve : s.isValveAddress f.dest with
    | true => simp [routeDemand, linked, length, valve]
    | false => simp [routeDemand, linked, length, valve]
  · simp [routeDemand, linked, length]

/-- A DEMAND frame at the guard: discarded in BLOCKED and PARK; otherwise its flags and ZONE_STOP are written, and it joins
the crane-bound queue, with the attempt of a pending commit where it is still, or is dropped (R52, R60, R62, R114). -/
theorem State.guardDemand_filtered (s : State) (f : Frame) :
    let out := s.filterDemands (demandsOf f.payload)
    let joined := (s.demandJudged out).demandJoined (filteredFrame f out) (s.allStill out)
    s.guardDemand f
      = if s.guard.state = .blocked ∨ s.guard.state = .park then s
        else if s.line.craneQueue.length < 4 then (if s.allStill out = true then joined.attemptSwap else joined)
        else (s.demandJudged out).latch .fwdDrop := by
  intro out joined
  have judged : (s.writeFlags out).latchZoneStop out = s.demandJudged out := rfl
  have stays : (s.demandJudged out).allStill out = s.allStill out := s.allStill_written out
  have queue : (s.demandJudged out).line = s.line := by simp
  refine (s.guardDemand_eq f).trans (if_congr Iff.rfl rfl ?_)
  change ((s.writeFlags out).latchZoneStop out).joinFiltered f out = _
  rw [judged, State.joinFiltered_eq, stays]
  exact if_congr (by rw [queue]; rfl) rfl rfl

/-- Settles O24: a short DEMAND frame passes the Cab Port, the Router's tests and the guard's filter in this order. -/
theorem demandFramesDisposed : Obligations.DemandFramesDisposed := by
  refine ⟨fun s p short => ?_, fun s out => ?_, fun payload => ⟨by simp [demandsOf], fun k => demandsOf_getElem? payload⟩,
    fun f out => ⟨rfl, rfl, rfl, rfl, ?_, demandsOf_filteredFrame f⟩⟩
  · intro out w u still joined
    have ran : exec (.demand p) s
        = .next (cabPort (frameOf classDemand p) (routeDemand (frameOf classDemand p)) s).driveAttn := rfl
    refine ran.trans (congrArg (fun t : State => Host.Outcome.next t.driveAttn) ?_)
    by_cases idle : s.store.reading = true ∨ s.router.link = .dark
    · rw [if_pos idle]
      exact cabPort_idle (f := frameOf classDemand p) short (fun dark => by simp [routeDemand, dark]) idle
    · obtain ⟨reading, linked⟩ := State.routes_of_not_idle idle
      rw [if_neg idle, cabPort_routed (f := frameOf classDemand p) short reading, routeDemand_linked linked,
        State.guardDemand_filtered]
      rfl
  · simp only [State.allStill_iff, State.motionSlot_iff]
  · rw [filteredFrame_payload, signedRow_length, List.length_map]

end Sys2Proof.Machine

/-! PROOFS. What the filter makes of a demand in each guard state (spec/03, R51 to R59) -/

namespace Sys2Proof.Machine

/-! ### Magnitudes (R52, R54, R56, R59) -/

/-- A clamped demand is at most 1000 in magnitude (R52). -/
theorem clampDemand_natAbs_le (d : Int) : (clampDemand d).natAbs ≤ 1000 := by
  unfold clampDemand
  omega

/-- A limited demand is at most its limit in magnitude. -/
theorem limitTo_natAbs_le_cap (cap : Nat) (d : Int) : (limitTo cap d).natAbs ≤ cap := by
  unfold limitTo
  split <;> omega

/-- A limited demand is no greater in magnitude than the demand. -/
theorem limitTo_natAbs_le (cap : Nat) (d : Int) : (limitTo cap d).natAbs ≤ d.natAbs := by
  unfold limitTo
  split <;> omega

/-- A clamped and limited demand is at most 1000 in magnitude. -/
theorem limitTo_clampDemand_natAbs_le (cap : Nat) (d : Int) : (limitTo cap (clampDemand d)).natAbs ≤ 1000 :=
  (limitTo_natAbs_le cap _).trans (clampDemand_natAbs_le d)

/-! ### The enforced demand (R55 to R59) -/

/-- A motion demand that is judged is at most 1000 in magnitude; within the caps of R56 and R59 unless it is 0. -/
theorem judgeMotion_bounds (b : TableSet) (load : OverloadState) (t : TipPosition) (slot : Nat) (received : Int) :
    let x := judgeMotion b load t slot received
    let violation := t.zone.rule = .noEntry ∨ t.band = .beyond
    x.value.natAbs ≤ 1000
      ∧ (violation → x.value.natAbs ≤ b.setting .violationCap)
      ∧ (¬violation → x.value ≠ 0 →
          x.value.natAbs ≤ t.zone.cap ∧ x.value.natAbs ≤ (lookAhead b t slot (clampDemand received)).zone.cap) := by
  intro x violation
  have eq : x = _ := judgeMotion_eq b load t slot received
  by_cases stands : violation
  · rw [if_pos stands] at eq
    split_ifs at eq
    · rw [eq]
      exact ⟨Nat.zero_le _, fun _ => Nat.zero_le _, fun moved => absurd stands moved⟩
    · rw [eq]
      exact ⟨limitTo_clampDemand_natAbs_le _ _, fun _ => limitTo_natAbs_le_cap _ _, fun moved => absurd stands moved⟩
  · rw [if_neg stands] at eq
    split_ifs at eq
    · rw [eq]
      exact ⟨Nat.zero_le _, fun v => absurd v stands, fun _ moves => absurd rfl moves⟩
    · rw [eq]
      exact ⟨Nat.zero_le _, fun v => absurd v stands, fun _ moves => absurd rfl moves⟩
    · rw [eq]
      refine ⟨limitTo_clampDemand_natAbs_le _ _, fun v => absurd v stands, fun _ _ => ?_⟩
      exact le_min_iff.mp (limitTo_natAbs_le_cap _ _)

/-- An enforced demand is at most 1000 in magnitude; that of a motion slot is within the caps of R56 and R59. -/
theorem enforceDemand_bounds (b : TableSet) (load : OverloadState) (t : TipPosition) (slot : Nat) (received : Int) :
    let x := enforceDemand b load (some t) slot received
    let violation := t.zone.rule = .noEntry ∨ t.band = .beyond
    x.value.natAbs ≤ 1000
      ∧ (b.slotKind slot ∈ motionKinds →
          (violation → x.value.natAbs ≤ b.setting .violationCap)
          ∧ (¬violation → x.value ≠ 0 →
              x.value.natAbs ≤ t.zone.cap
                ∧ x.value.natAbs ≤ (lookAhead b t slot (clampDemand received)).zone.cap)) := by
  intro x violation
  have eq : x = _ := enforceDemand_eq b load t slot received
  split_ifs at eq with passes
  · rw [eq]
    refine ⟨clampDemand_natAbs_le received, fun motion => ?_⟩
    have still : clampDemand received = 0 := passes.resolve_left (not_not_intro motion)
    rw [passAs, still]
    exact ⟨fun _ => Nat.zero_le _, fun _ moves => absurd rfl moves⟩
  · rw [eq]
    obtain ⟨small, capped⟩ := judgeMotion_bounds b load t slot received
    exact ⟨small, fun _ => capped⟩

/-- Without a tip position an enforced demand is clamped or 0 (log 17). -/
theorem enforceDemand_none_natAbs_le (b : TableSet) (load : OverloadState) (slot : Nat) (received : Int) :
    (enforceDemand b load none slot received).value.natAbs ≤ 1000 := by
  unfold enforceDemand
  split
  · exact clampDemand_natAbs_le received
  · exact Nat.zero_le _

/-! ### One slot of a frame (R53, R54, R55) -/

/-- The filter works slot by slot. -/
theorem State.filterDemands_getElem? (s : State) {demands : List Int} {k : Nat} {d : Int} (at_ : demands[k]? = some d) :
    (s.filterDemands demands)[k]?
      = some (match s.guard.state with
        | .hold => ⟨0, .passed, false⟩
        | .service => serviceDemand (s.banks.active.setting .serviceCap) (s.motionSlot k) d
        | .enforce => enforceDemand s.banks.active s.capacity.overload s.tip k d
        | .blocked => passAs d d
        | .park => passAs d d) := by
  rw [State.filterDemands, List.getElem?_mapIdx, at_]
  rfl

/-- In SERVICE the motion slots, and without active tables all slots, are limited to the service cap (R54). -/
theorem serviceDemand_eq {s : State} (service : s.guard.state = .service) (k : Nat) (d : Int) :
    let cap := s.banks.active.setting .serviceCap
    serviceDemand cap (s.motionSlot k) d
      = passAs d (if s.banks.active.slotKind k ∈ motionKinds ∨ s.banks.activeValid = false then limitTo cap (clampDemand d)
        else clampDemand d) := by
  have motion : s.motionSlot k = true
      ↔ s.banks.active.slotKind k ∈ motionKinds ∨ s.banks.activeValid = false := by
    simp [State.motionSlot_iff, service]
  exact congrArg (passAs d) (if_congr motion rfl rfl)

/-- Settles O25: slot by slot, 0 in HOLD, the service cap in SERVICE, and the enforced demand with its bounds in
ENFORCE. -/
theorem filteredDemandsInEachState : Obligations.FilteredDemandsInEachState := by
  refine ⟨fun s demands => ⟨by simp [State.filterDemands], fun k d at_ => ?_⟩, rfl⟩
  intro filtered motion c cap v
  have eq : filtered = _ := s.filterDemands_getElem? at_
  refine ⟨fun hold => ?_, fun service => ?_, fun enforce => ?_⟩
  · simp only [eq, hold]
  · simp only [service] at eq
    rw [serviceDemand_eq service] at eq
    refine ⟨eq, ?_, fun moves => ?_⟩
    · by_cases moves : motion ∨ s.banks.activeValid = false
      · rw [show v = _ from if_pos moves]
        exact limitTo_clampDemand_natAbs_le _ d
      · rw [show v = _ from if_neg moves]
        exact clampDemand_natAbs_le d
    · rw [show v = _ from if_pos moves]
      exact limitTo_natAbs_le_cap _ _
  · simp only [enforce] at eq
    refine ⟨_, eq, rfl, ?_, fun t tip => ?_⟩
    · cases s.tip with
      | none => exact enforceDemand_none_natAbs_le _ _ k d
      | some t => exact (enforceDemand_bounds _ _ t k d).1
    · rw [tip]
      exact (enforceDemand_bounds _ _ t k d).2

end Sys2Proof.Machine

/-! PROOFS. SYNC and SAMPLE frames at the Sample Assembler (spec/07, R107, R109, R112, R125 to R128) -/

namespace Sys2Proof.Machine

/-! ### SYNC (R125, R128) -/

/-- A lost set resets the warm-up count in HOLD and changes nothing else of the guard (R40, R128). -/
theorem EnvelopeGuard.lostSet_eq (u : EnvelopeGuard) :
    u.lostSet = { u with warmUp := if u.state = .hold then 0 else u.warmUp } := by
  by_cases hold : u.state = .hold
  · simp [EnvelopeGuard.lostSet, hold]
  · simp [EnvelopeGuard.lostSet, hold]

/-- A lost set as the guard and the Lift Unit take it (R128). -/
theorem State.reportLost_eq (s : State) :
    s.reportLost
      = { s with
          guard := { s.guard with warmUp := if s.guard.state = .hold then 0 else s.guard.warmUp }
          lift := { s.lift with window := [], search := s.lift.search.map (fun t => { t with window := [] }) } } := by
  rw [State.reportLost, EnvelopeGuard.lostSet_eq]
  rfl

/-- A SYNC frame at the Router of a LINKED machine: handed over by its length outside PARK, and forwarded (R107, R109). -/
theorem routeSync_linked {f : Frame} {s : State} (linked : s.router.link = .linked) :
    routeSync f s
      = if f.payload.length = 1 ∧ s.guard.state ≠ .park then (s.takeSync (f.payload.headD 0)).forwardCrane f
        else s.forwardCrane f := by
  have handed : s.syncHanded f = true ↔ f.payload.length = 1 ∧ s.guard.state ≠ .park := by simp [State.syncHanded]
  by_cases takes : f.payload.length = 1 ∧ s.guard.state ≠ .park
  · rw [if_pos takes]
    simp only [routeSync, linked, if_pos (handed.mpr takes)]
  · rw [if_neg takes]
    simp only [routeSync, linked, if_neg (mt handed.mp takes)]

/-- Settles O27: a SYNC closes an open set as lost, opens the next, and is forwarded. -/
theorem syncOpensSampleSet : Obligations.SyncOpensSampleSet := by
  intro s p short f lost u
  have ran : exec (.sync p) s = .next (cabPort f (routeSync f) s).driveAttn := rfl
  refine ran.trans (congrArg (fun t : State => Host.Outcome.next t.driveAttn) ?_)
  by_cases idle : s.store.reading = true ∨ s.router.link = .dark
  · rw [if_pos idle]
    exact cabPort_idle (f := f) short (fun dark => by simp [routeSync, dark]) idle
  · obtain ⟨reading, linked⟩ := State.routes_of_not_idle idle
    rw [if_neg idle, cabPort_routed (f := f) short reading, routeSync_linked linked]
    have reported : s.reportLost = lost := s.reportLost_eq
    have opened : s.takeSync (p.body.headD 0) = { u with openSet := some ⟨p.body.headD 0, List.replicate 8 none⟩ } := by
      rw [State.takeSync, reported]
      rfl
    exact if_congr Iff.rfl (congrArg (State.forwardCrane f) opened) rfl

/-! ### SAMPLE (R126, R127) -/

/-- A short frame at the Crane Port is routed (R104). -/
theorem cranePort_routed {f : Frame} {route : State → State} {s : State} (short : f.payload.length ≤ 28) :
    cranePort f route s = route s :=
  if_neg (Nat.not_lt.mpr short)

/-- A SAMPLE frame of no set that is open is not read (R126). -/
theorem State.snoop_passed {f : Frame} {s : State}
    (passed : pairCount f.payload = none ∨ s.openSet = none
      ∨ ∃ o, s.openSet = some o ∧ f.payload.headD 0 ≠ o.sequence) : s.snoop f = s := by
  unfold State.snoop
  split
  · next n o count opened =>
    rcases passed with malformed | closed | ⟨o', opened', other⟩
    · exact absurd (malformed.symm.trans count) (by simp)
    · exact absurd (closed.symm.trans opened) (by simp)
    · cases opened.symm.trans opened'
      exact if_neg other
  · rfl

/-- A SAMPLE frame of the open set fills its slots, and a complete set is delivered (R126, R127). -/
theorem State.snoop_read {f : Frame} {s : State} {n : Nat} {o : OpenSet} (count : pairCount f.payload = some n)
    (opened : s.openSet = some o) (sequence : f.payload.headD 0 = o.sequence) :
    let slots := takePairs s.banks.active f.src.toNat (pairsOf n f.payload) o.slots
    s.snoop f
      = if slots.all Option.isSome = true then ({ s with openSet := none }).deliver (completeSet slots)
        else { s with openSet := some { o with slots := slots } } := by
  simp only [State.snoop, count, opened, if_pos sequence]
  rfl

/-- No number of pairs fits the payload. -/
theorem pairCount_eq_none {b : Bytes} (unfit : ¬∃ n, 1 ≤ n ∧ n ≤ 6 ∧ b.length = 1 + 3 * n) : pairCount b = none :=
  Option.eq_none_iff_forall_ne_some.mpr fun n count => unfit ⟨n, (pairCount_eq_some b n).mp count⟩

/-- The event of a short SAMPLE frame on a LINKED machine (R107, R112). -/
theorem exec_sample_linked {s : State} {p : Packet} (short : p.body.length ≤ 28) (linked : s.router.link = .linked) :
    exec (.sample p) s
      = .next ((s.snoop (frameOf classSample p)).forwardCab (frameOf classSample p)).driveAttn := by
  have ran : exec (.sample p) s
      = .next (cranePort (frameOf classSample p) (routeSample (frameOf classSample p)) s).driveAttn := rfl
  rw [ran, cranePort_routed (f := frameOf classSample p) short]
  simp only [routeSample, linked]

/-- The event of a short SAMPLE frame on a DARK machine (R107). -/
theorem exec_sample_dark {s : State} {p : Packet} (short : p.body.length ≤ 28) (dark : s.router.link = .dark) :
    exec (.sample p) s = .next s.driveAttn := by
  have ran : exec (.sample p) s
      = .next (cranePort (frameOf classSample p) (routeSample (frameOf classSample p)) s).driveAttn := rfl
  rw [ran, cranePort_routed (f := frameOf classSample p) short]
  simp only [routeSample, dark]

/-- Settles O28: a SAMPLE frame of the open set is read pair by pair until the set is complete, and forwarded in every
case. -/
theorem sampleFillsOpenSet : Obligations.SampleFillsOpenSet := by
  refine ⟨fun s p short => ?_, fun n payload => ⟨by simp [pairsOf], fun k inside => ?_⟩,
    fun b src pair rest slots => ⟨rfl, rfl⟩, fun slew a1 a2 ext force grip pitch roll => rfl⟩
  · intro f
    refine ⟨exec_sample_dark short, fun linked => ⟨fun passed => ?_, fun n o one six length opened sequence => ?_⟩⟩
    · rw [exec_sample_linked short linked]
      exact congrArg (fun t : State => Host.Outcome.next (t.forwardCab f).driveAttn)
        (State.snoop_passed (passed.imp_left pairCount_eq_none))
    · intro slots
      have read : s.snoop f = _ :=
        State.snoop_read ((pairCount_eq_some p.body n).mpr ⟨one, six, length⟩) opened sequence
      rw [exec_sample_linked short linked]
      refine ⟨fun partly => ?_, fun full => ?_⟩
      · exact congrArg (fun t : State => Host.Outcome.next (t.forwardCab f).driveAttn)
          (read.trans (if_neg (ne_true_of_eq_false partly)))
      · exact congrArg (fun t : State => Host.Outcome.next (t.forwardCab f).driveAttn) (read.trans (if_pos full))
  · intro raw
    simp only [pairsOf, List.getElem?_map, List.getElem?_range inside]
    rfl

end Sys2Proof.Machine

/-! PROOFS. The lift from grip to record (spec/04, R65 to R80) -/

namespace Sys2Proof.Machine

/-! ### The overload mark (R74) -/

/-- The context after OVERLOAD_SEEN has been judged (R74). -/
def LiftContext.marked (load : OverloadState) (c : LiftContext) : LiftContext :=
  { c with overloadSeen := c.overloadSeen || load == OverloadState.overload }

/-- Without an overload the mark changes nothing. -/
theorem LiftContext.marked_normal (c : LiftContext) : c.marked .normal = c :=
  congrArg (fun seen => { c with overloadSeen := seen }) (Bool.or_false _)

/-- Judging OVERLOAD_SEEN marks the context of the lift in progress and changes nothing else (R74). -/
theorem State.markOverload_eq {s : State} {c : LiftContext} (lifting : s.lift.context = some c) :
    s.markOverload = { s with lift := { s.lift with context := some (c.marked s.capacity.overload) } } := by
  cases load : s.capacity.overload with
  | overload => simp [State.markOverload, LiftContext.marked, load, lifting]
  | normal =>
    rw [LiftContext.marked_normal, ← lifting, State.markOverload, if_neg (by simp [load])]

/-! ### The grapple (R66, R67) -/

/-- In HOLD with a lift in progress the grapple state is held (R67). -/
theorem State.grappleNext_held {s : State} (hold : s.guard.state = .hold) (lifting : s.lift.state ≠ .empty)
    (t : TipPosition) : s.grappleNext t = s.lift.grapple :=
  if_pos (by simp [State.grappleHeld, hold, lifting])

/-- Otherwise the grapple state follows the grip pressure (R66). -/
theorem State.grappleNext_judged {s : State} (judged : s.guard.state ≠ .hold ∨ s.lift.state = .empty) (t : TipPosition) :
    s.grappleNext t = grappleAfter s.banks.active t.grip s.lift.grapple :=
  if_neg (by simpa [State.grappleHeld, or_iff_not_imp_left] using judged)

/-! ### GRIPPED (R68, R70) -/

/-- A grip event begins a lift, whose context already carries the overload mark (R68, R74). -/
theorem State.beginLift_markOverload (s : State) (t : TipPosition) :
    (s.beginLift t).markOverload
      = { s with
          lift := { s.lift with
            state := .gripped
            context := some ((newContext s.tally.selected t).marked s.capacity.overload)
            clearCount := 0
            window := []
            timer := 0
            timerRunning := true } } :=
  State.markOverload_eq (s := s.beginLift t) rfl

/-- A tip position with a lift in GRIPPED is judged for clearing after the overload mark (R70, R74). -/
theorem State.liftStep_gripped_steady {s : State} (gripped : s.lift.state = .gripped) (t : TipPosition) :
    s.liftStep .steady t = s.markOverload.clearStep t := by
  simp only [State.liftStep, gripped]

/-- The first part of a tip position, as one choice: a grip event ends a tare search (R66, R67, R85). -/
theorem State.grappleStep_eq (s : State) (t : TipPosition) :
    let v := { s with lift := { s.lift with grapple := s.grappleNext t } }
    s.grappleStep t = if grappleEvent s.lift.grapple (s.grappleNext t) = .grip then v.failSearch else v := rfl

/-- Settles O37: the grapple state follows the pressure, a grip begins the lift, and a net mass that stays over the
threshold makes it ALOFT. -/
theorem grippedLoadIsPickedUp : Obligations.GrippedLoadIsPickedUp := by
  refine ⟨fun s t => ?_, fun s t => ⟨fun empty => ⟨?_, ?_, ?_⟩, fun c gripped lifting => ?_⟩, fun s t => rfl⟩
  · refine ⟨fun hold lifting => State.grappleNext_held hold lifting t, fun judged => ?_, grappleEvent_eq_grip,
      grappleEvent_eq_release⟩
    rw [State.grappleNext_judged judged]
    exact ⟨fun closes => if_pos closes,
      fun below opens => (if_neg (Int.not_le.mpr below)).trans (if_pos opens),
      fun below stays => (if_neg (Int.not_le.mpr below)).trans (if_neg (Int.not_lt.mpr stays))⟩
  · have begins : s.liftStep .grip t = (s.beginLift t).markOverload := by simp only [State.liftStep, empty]
    rw [begins, State.beginLift_markOverload]
    simp only [LiftContext.marked, newContext, Bool.false_or]
    rfl
  · simp only [State.liftStep, empty]
  · simp only [State.liftStep, empty]
  · intro c'
    rw [State.liftStep_gripped_steady gripped, State.markOverload_eq lifting]
    rfl

/-! ### ALOFT and WEIGHED (R71 to R73) -/

/-- The spread of a window of net masses that is not empty is its greatest value less its least. -/
theorem netSpread_spec {window : List Nat} (nonempty : window ≠ []) :
    ∃ lo hi, lo ∈ window ∧ hi ∈ window ∧ (∀ m, m ∈ window → lo ≤ m ∧ m ≤ hi) ∧ netSpread window = hi - lo := by
  obtain ⟨_, _, loMem, hiMem, between, spread⟩ := spreadOf_spec (window := window.map Int.ofNat) (by simpa using nonempty)
  obtain ⟨lo, loIn, rfl⟩ := List.mem_map.mp loMem
  obtain ⟨hi, hiIn, rfl⟩ := List.mem_map.mp hiMem
  refine ⟨lo, hi, loIn, hiIn, fun m mIn => ?_, ?_⟩
  · simpa using between (Int.ofNat m) (List.mem_map_of_mem mIn)
  · rw [netSpread, spread]
    exact Int.toNat_sub hi lo

/-- A weighing is taken where it is the first or its spread is the strictly smaller one (R72, R73). -/
theorem takeWeighing_eq (new : Weighing) (c : LiftContext) :
    takeWeighing new c
      = if c.weighing.all (fun held => new.spread < held.spread) = true then { c with weighing := some new } else c := by
  cases held : c.weighing with
  | none => simp [takeWeighing, held]
  | some w => simp [takeWeighing, held]

/-- The tests of a window: full, within the tolerance, and of a mean over the threshold (R72). -/
theorem stableWindow_iff (b : TableSet) (window : List Nat) :
    stableWindow b window = true
      ↔ netSpread window ≤ b.setting .tolerance ∧ b.setting .clearThreshold ≤ netMean window := by
  simp [stableWindow]

/-- A tip position with a load aloft and no release event: the overload mark, then the window and its weighing
(R71 to R74). -/
theorem State.liftStep_lifted_steady {s : State} {c : LiftContext} (lifting : s.lift.context = some c)
    (lifted : s.lift.state = .aloft ∨ s.lift.state = .weighed) (t : TipPosition) :
    let b := s.banks.active
    let window := appendWindow (b.setting .weighWindow) s.lift.window t.net
    let c' := c.marked s.capacity.overload
    s.liftStep .steady t
      = if window.length = b.setting .weighWindow ∧ netSpread window ≤ b.setting .tolerance
            ∧ b.setting .clearThreshold ≤ netMean window then
          { s with
            lift := { s.lift with
              state := .weighed
              context := some (if c'.weighing.all (fun held => netSpread window < held.spread) = true then
                { c' with weighing := some ⟨netMean window, netSpread window, t.reach⟩ } else c')
              window := [] } }
        else { s with lift := { s.lift with context := some c', window := window } } := by
  intro b window c'
  have weighs : s.liftStep .steady t = s.markOverload.weighStep t := by
    rcases lifted with aloft | weighed
    · simp only [State.liftStep, aloft]
    · simp only [State.liftStep, weighed]
  rw [weighs, State.markOverload_eq lifting, ← takeWeighing_eq ⟨netMean window, netSpread window, t.reach⟩ c']
  exact if_congr (and_congr_right fun _ => stableWindow_iff b window) rfl rfl

/-- Settles O38: the window's spread is its greatest less its least net mass, and a full stable window is taken unless a
tighter one is held. -/
theorem tightestStableWindowWeighs : Obligations.TightestStableWindowWeighs := by
  intro s t c lifted lifting b c' window mean
  obtain ⟨lo, hi, loMem, hiMem, between, spread⟩ :=
    netSpread_spec (appendWindow_ne_nil (b.setting .weighWindow) s.lift.window t.net)
  refine ⟨lo, hi, loMem, hiMem, between, ?_⟩
  have weighs := State.liftStep_lifted_steady lifting (lifted.imp And.left And.left) t
  dsimp only at weighs
  rw [spread] at weighs
  exact weighs

/-! ### The end of a lift (R76 to R80) -/

/-- A lift in progress ends with a record of its context (R78, R79). -/
theorem State.endLiftRecorded_eq {s : State} {c : LiftContext} (lifting : s.lift.context = some c) (kind : LiftKind)
    (release : Option Cell) :
    s.endLiftRecorded kind release
      = ({ s with lift := s.lift.ended } : State).bookRecord (buildRecord kind release s.lift.timer c) := by
  simp only [State.endLiftRecorded, lifting]
  rfl

/-- The kind of a released lift as the first of four cases (R77). -/
theorem releaseKind_eq (gripBunk releaseBunk : Bool) :
    releaseKind gripBunk releaseBunk
      = if gripBunk = false ∧ releaseBunk = true then .loaded
        else if gripBunk = true ∧ releaseBunk = false then .unloaded
        else if gripBunk = true ∧ releaseBunk = true then .reshuffled
        else .returned := by
  cases gripBunk <;> cases releaseBunk <;> rfl

/-- A release with a load aloft: the lift ends with the record of its marked context (R74, R76, R77). -/
theorem State.liftStep_lifted_release {s : State} {c : LiftContext} (lifting : s.lift.context = some c)
    (lifted : s.lift.state = .aloft ∨ s.lift.state = .weighed) (t : TipPosition) :
    s.liftStep .release t
      = (({ s with lift := s.lift.ended } : State).bookRecord
          (buildRecord (releaseKind c.gripBunk t.zone.bunk) (some (cellOf t)) s.lift.timer
            (c.marked s.capacity.overload))).attemptSwap := by
  have releases : s.liftStep .release t = s.markOverload.releaseAloft t := by
    rcases lifted with aloft | weighed
    · simp only [State.liftStep, aloft]
    · simp only [State.liftStep, weighed]
  rw [releases, State.markOverload_eq lifting]
  rfl

/-- A lift with a load aloft is abandoned with a record (R80). -/
theorem State.abandonLift_lifted {s : State} (lifted : s.lift.state = .aloft ∨ s.lift.state = .weighed) :
    s.abandonLift = (s.endLiftRecorded .abandoned none).latch .liftAbandoned := by
  rcases lifted with aloft | weighed
  · simp only [State.abandonLift, aloft]
  · simp only [State.abandonLift, weighed]

/-- Settles O39: a lift in GRIPPED ends without a record, one with a load aloft with the record of its context. -/
theorem liftEndsWithItsRecord : Obligations.LiftEndsWithItsRecord := by
  refine ⟨fun s t c lifting => ?_, fun s empty => by simp only [State.abandonLift, empty]⟩
  intro ended record cell kind
  refine ⟨fun gripped => ⟨?_, ?_⟩, fun lifted => ⟨?_, ?_⟩⟩
  · have releases : s.liftStep .release t = s.markOverload.endLift.attemptSwap := by simp only [State.liftStep, gripped]
    rw [releases, State.markOverload_eq lifting]
    rfl
  · simp only [State.abandonLift, gripped]
    rfl
  · rw [State.liftStep_lifted_release lifting lifted, releaseKind_eq]
    rfl
  · rw [State.abandonLift_lifted lifted, State.endLiftRecorded_eq lifting]
    rfl

/-! ### Booking (R88 to R91, R99) -/

/-- A record's booking in the tallies: the tally it names is replaced, and another kind than LOADED and UNLOADED leaves it
as it stands (R90). -/
theorem TallyUnit.book_tallies {u : TallyUnit} {r : LiftRecord} (named : r.assortment < u.tallies.length) :
    u.book r
      = { u with
          tallies := u.tallies.set r.assortment
            (match r.kind with
            | .loaded => (u.tallyOf r.assortment).book_loaded (r.weighing.map (·.weight))
            | .unloaded => (u.tallyOf r.assortment).book_unloaded (r.weighing.map (·.weight))
            | .reshuffled | .returned | .abandoned => u.tallyOf r.assortment) } := by
  have unchanged : u.tallies.set r.assortment (u.tallyOf r.assortment) = u.tallies := by
    rw [TallyUnit.tallyOf, List.getD_eq_getElem _ _ named, List.set_getElem_self]
  cases kind : r.kind with
  | loaded | unloaded => simp only [TallyUnit.book, kind]
  | reshuffled | returned | abandoned => simp only [TallyUnit.book, kind, unchanged]

/-- Settles O40: a record is booked in its tally, judged for underrun and bunk, and queued under the sequence it found. -/
theorem recordBookedAndQueued : Obligations.RecordBookedAndQueued := by
  intro s r named old up new booked under u v
  have tally : ({ s.tally.book { r with sequence := s.tally.sequence } with sequence := s.tally.sequence + 1 } : TallyUnit)
      = booked.tally := by
    rw [TallyUnit.book_tallies (r := { r with sequence := s.tally.sequence }) named]
    refine congrArg (fun entry => ({ s.tally with
      tallies := s.tally.tallies.set r.assortment entry, sequence := s.tally.sequence + 1 } : TallyUnit)) ?_
    show _ = new
    cases kind : r.kind with
    | loaded | unloaded => cases weighed : r.weighing <;> simp only [new, kind, weighed] <;> rfl
    | reshuffled | returned | abandoned =>
      simp only [new, kind]
      rfl
  have underrun : s.tally.underrun { r with sequence := s.tally.sequence } = under := rfl
  have judged : s.bookRecord r
      = (if under then ({ s with tally := booked.tally } : State).latch .tallyUnderrun
          else { s with tally := booked.tally }).judgeBunk.queueRecord { r with sequence := s.tally.sequence } := by
    rw [← tally, ← underrun]
    rfl
  rw [judged]
  change v.queueRecord _ = _
  have records : v.tally.records.length = s.tally.records.length := by
    simp only [v, u, booked]
    split <;> simp
  exact if_congr (by rw [records]; rfl) rfl rfl

end Sys2Proof.Machine

/-! PROOFS. TABLE DATA and the encoding of the tables (spec/08, spec/11, R134, R135, R139, R140, R170) -/

namespace Sys2Proof.Machine

/-! ### TABLE DATA (R139) -/

/-- TABLE DATA during a reload is refused. -/
theorem judgeTableData_reloading {s : State} (reloading : s.store.state = .reloading) (args : Bytes) :
    judgeTableData args s = s.refuse .busy :=
  if_pos reloading

/-- TABLE DATA without a window is refused. -/
theorem judgeTableData_closed {s : State} (store : s.store.state ≠ .reloading) (closed : s.unit.window = none)
    (args : Bytes) : judgeTableData args s = s.refuse .noWindow := by
  unfold judgeTableData
  rw [if_neg store, closed]

/-- TABLE DATA with a whole number of entries writes them at the pointer. -/
theorem judgeTableData_written {s : State} {w : Window} {n : Nat} {args : Bytes} (store : s.store.state ≠ .reloading)
    (window : s.unit.window = some w) (some_ : 1 ≤ n) (whole : args.length = n * w.table.entrySize) :
    let written := writeEntries (splitEntries w.table.entrySize n args) s.banks.staging w
    judgeTableData args s
      = ({ s with
          banks := { s.banks with staging := written.1 }
          unit := { s.unit with window := some written.2 } } : State).done [byteOf written.2.row, byteOf written.2.col] := by
  have size : 0 < w.table.entrySize := by cases w.table <;> decide
  have count : args.length / w.table.entrySize = n := by rw [whole, Nat.mul_div_cancel _ size]
  have good : ¬(args.length = 0 ∨ args.length % w.table.entrySize ≠ 0) := by
    rw [whole, Nat.mul_mod_left]
    have := Nat.mul_le_mul some_ size
    omega
  unfold judgeTableData
  rw [if_neg store, window]
  refine (if_neg good).trans ?_
  rw [count]

/-- The event of a taken TABLE DATA: it is judged with the window as it stands (R140). -/
theorem exec_tableData_taken {s : State} {p : Packet} (takes : s.Takes p) (short : p.body.length ≤ 27) :
    exec (.tableData p) s = .next ((judgeTableData p.body s).ends .tableData p) := by
  have ran : exec (.tableData p) s = commandEvent (commandFrame .tableData p) (judgeTableData p.body) s := rfl
  rw [ran, commandEvent_taken .tableData _ takes short, windowStep_tableData]

/-- Entry `k` of a payload is its `k`-th run of bytes. -/
theorem splitEntries_getElem? (size : Nat) {n k : Nat} (inside : k < n) (payload : Bytes) :
    (splitEntries size n payload)[k]? = some ((payload.drop (k * size)).take size) := by
  induction n generalizing k payload with
  | zero => exact absurd inside (Nat.not_lt_zero k)
  | succ n ih =>
    rw [splitEntries]
    cases k with
    | zero => simp
    | succ k =>
      rw [List.getElem?_cons_succ, ih (Nat.lt_of_succ_lt_succ inside), List.drop_drop, Nat.succ_mul, Nat.add_comm size]

/-- A payload is split into as many entries as asked for. -/
theorem splitEntries_length (size n : Nat) (payload : Bytes) : (splitEntries size n payload).length = n := by
  induction n generalizing payload with
  | zero => rfl
  | succ n ih => rw [splitEntries, List.length_cons, ih]

/-! ### The fields of the entries (R170) -/

section Fields

variable (b : TableSet)

/-- The Zone Map's entry, by its byte. -/
theorem TableSet.zone_eq {ring e : Nat} (inRing : ring < 5) (inRow : e < 13) :
    let n := u8At (b.entry .zoneMap (ring * 13 + e)) 0
    b.zone ring e
      = if n / 32 = 0 then some .plain else if n / 32 = 1 then some (.cls (n % 16))
        else if n / 32 = 2 then some (.header (decide (n / 16 % 2 = 1)) (n % 16)) else none := by
  have index : ring * 13 + e < TableId.zoneMap.entries := show ring * 13 + e < 65 by omega
  rw [TableSet.zone, b.byte_eq_entry index (by decide)]
  exact zoneEntryOfByte_eq (u8At_lt _ _)

/-- The fields of a class record, by its bytes. -/
theorem TableSet.class_eq {i : Nat} (index : i < TableId.zoneClasses.entries) :
    let e := b.entry .zoneClasses i
    b.classRule i = (if u8At e 0 % 4 = 0 then .openEntry else .noEntry) ∧ b.classBunk i = decide (u8At e 0 / 4 % 2 = 1)
      ∧ b.classDerate i = u8At e 1 ∧ b.classCap i = u16At e 2 := by
  have first := b.byte_eq_entry index (show 0 < TableId.zoneClasses.entrySize by decide)
  refine ⟨?_, ?_, b.byte_eq_entry index (by decide), b.word_eq_entry index (by decide)⟩
  · rw [TableSet.classRule, b.classRuleBits_eq, first]
  · rw [b.classBunk_eq, first]

/-- The fields of a Channel Map entry, by its bytes. -/
theorem TableSet.channel_eq {q : Nat} (index : q < TableId.channelMap.entries) :
    let e := b.entry .channelMap q
    b.channelSource q = u8At e 0 ∧ b.channelNumber q = u8At e 1 ∧ b.channelZero q = signed16 (u16At e 2)
      ∧ b.channelGain q = u16At e 4 := by
  refine ⟨b.byte_eq_entry index (by decide), b.byte_eq_entry index (by decide), ?_, b.word_eq_entry index (by decide)⟩
  rw [TableSet.channelZero, b.word_eq_entry index (by decide)]

/-- The fields of a Valve Map slot, by its bytes. -/
theorem TableSet.slot_eq {i : Nat} (index : i < TableId.valveMap.entries) :
    let e := b.entry .valveMap i
    b.slotKind i = [SlotKind.unused, .slew, .boom, .jib, .ext, .rotator, .grapple, .other].getD (u8At e 0) .unused
      ∧ b.slotPolarity i = (if u8At e 1 < 128 then (u8At e 1 : Int) else (u8At e 1 : Int) - 256)
      ∧ b.slotLookStep i = u16At e 2 := by
  refine ⟨?_, ?_, b.word_eq_entry index (by decide)⟩
  · rw [TableSet.slotKind, b.byte_eq_entry index (by decide), slotKindOfByte_eq, List.getD_eq_getElem?_getD]
  · rw [TableSet.slotPolarity, b.byte_eq_entry index (by decide)]

/-- The fields of an assortment, by its bytes. -/
theorem TableSet.assortment_eq {i : Nat} (index : i < TableId.assortments.entries) :
    let e := b.entry .assortments i
    b.assortmentEnabled i = decide (u8At e 0 % 2 = 1)
      ∧ (b.assortmentCode i).map BitVec.toNat = [u8At e 1, u8At e 2, u8At e 3] := by
  have character {k : Nat} (inside : k < 4) :
      (byteOf (b.byte .assortments i k)).toNat = u8At (b.entry .assortments i) k := by
    rw [byteOf_toNat, Nat.mod_eq_of_lt (b.byte_lt _ _ _)]
    exact b.byte_eq_entry index inside
  refine ⟨?_, ?_⟩
  · rw [b.assortmentEnabled_eq, b.byte_eq_entry index (by decide)]
  · simp only [TableSet.assortmentCode, List.map_cons, List.map_nil]
    rw [character (show 1 < 4 by decide), character (show 2 < 4 by decide), character (show 3 < 4 by decide)]

/-- The value of a Settings entry, by its bytes. -/
theorem TableSet.settingAt_eq {i : Nat} (index : i < TableId.settings.entries) :
    b.settingAt i = u32At (b.entry .settings i) 0 := by
  rw [TableSet.settingAt, b.word_eq_entry index (by decide), b.word_eq_entry index (by decide)]
  rfl

end Fields

/-- Settles O44: TABLE DATA is refused without a window and otherwise writes its entries one by one; each field is read
from its own entry's bytes. -/
theorem tableDataWritesEntries : Obligations.TableDataWritesEntries := by
  refine ⟨fun s p takes short => ?_, fun size n payload => ⟨splitEntries_length size n payload,
      fun k inside => splitEntries_getElem? size inside payload⟩, fun e rest b w => ⟨rfl, rfl⟩,
    fun b t t' i j e size index index' length => b.entry_setEntry t t' i j e size index index' length, by decide,
    fun b => ?_⟩
  · refine ⟨fun reloading => ?_, fun store closed => ?_, fun w n store window some_ whole => ?_⟩
    · rw [exec_tableData_taken takes short, judgeTableData_reloading reloading, State.refuse_ends]
    · rw [exec_tableData_taken takes short, judgeTableData_closed store closed, State.refuse_ends]
    · rw [exec_tableData_taken takes short, judgeTableData_written store window some_ whole]
      rfl
  · refine ⟨fun t i => ⟨rfl, rfl, fun k index inside => b.byte_eq_entry index inside⟩,
      fun ring e inRing inRow => b.zone_eq inRing inRow, fun i index => b.class_eq index,
      fun band f inBand inSector => b.byte_eq_entry (t := .stabilityGrid) ?_ (by decide),
      fun i index => b.word_eq_entry (t := .capacityCurve) index (by decide), fun q index => b.channel_eq index,
      fun i index => b.slot_eq index, fun i index => b.assortment_eq index, fun i index => b.settingAt_eq index, rfl⟩
    show band * 12 + f < 72
    omega

end Sys2Proof.Machine

/-! PROOFS. The swap of the banks, and the Image Store's STORE and RELOAD (spec/08, spec/09, R144, R145, R149 to R154) -/

namespace Sys2Proof.Machine

/-! ### The attempt and the swap (R143 to R145) -/

/-- The maps agree: both tables are the same in both banks (R143). -/
theorem State.mapsDiffer_eq_false_iff (s : State) :
    s.mapsDiffer = false
      ↔ s.banks.staging.table .channelMap = s.banks.active.table .channelMap
        ∧ s.banks.staging.table .valveMap = s.banks.active.table .valveMap := by
  simp [State.mapsDiffer]

/-- An attempt swaps where a commit is pending and every test passes, and does nothing otherwise (R144). -/
theorem State.attemptSwap_eq (s : State) :
    s.attemptSwap = if s.banks.commit = .pending ∧ s.swapAllowed = true then s.swap else s := by
  by_cases pending : s.banks.commit = .pending
  · simp [State.attemptSwap, pending]
  · simp [State.attemptSwap, pending]

/-- A swap judges all of its conditions on the new tables (R33, R92, R145). -/
theorem State.swap_judged (s : State) :
    let u := s.swapTables.latch .swapDone
    s.swap
      = ((u.judge .nearCapacity (u.cause .nearCapacity)).judge .bunkNear (u.cause .bunkNear)).judge .bunkFull
          (u.cause .bunkFull) := by
  rw [State.swap_eq, State.judgeBunk_eq]
  simp only [State.cause_judge, State.cause_latch]

/-- Settles O48: an attempt swaps exactly where its tests pass, and a swap is the new tables with their judgements. -/
theorem pendingCommitSwapsAtOccasion : Obligations.PendingCommitSwapsAtOccasion := by
  refine fun s => ⟨rfl, ?_, s.swap_judged⟩
  simp only [State.attemptSwap_eq, State.swapAllowed_iff, State.mapsDiffer_eq_false_iff]

/-! ### The start of a store and of a reload (R151, R154) -/

/-- The image once a store has begun does not match, and has its 411 bytes (R151). -/
theorem State.beginStore_image {s : State} (length : s.store.image.length = 411) :
    imageMatches s.beginStore.store.image = false ∧ s.beginStore.store.image.length = 411 := by
  have tables : (imageTables s.store.image).bytes.length = tableSetSize := by simp [imageTables, length, tableSetSize]
  exact ⟨imageMatches_spoiled _ _ tables, imageOf_length _ _ tables⟩

/-- The event of a taken STORE. -/
theorem exec_store_taken {s : State} {p : Packet} (takes : s.Takes p) (short : p.body.length ≤ 27) :
    exec (.store p) s
      = .next
        (if p.body.length ≠ 0 then s.closeWindow.replied .store p (.refused .badArgument)
        else if s.store.state ≠ .idle then s.closeWindow.replied .store p (.refused .busy)
        else if s.banks.activeValid = false then s.closeWindow.replied .store p (.refused .noTables)
        else s.closeWindow.beginStore.replied .store p .accepted) := by
  have ran : exec (.store p) s = commandEvent (commandFrame .store p) (judgeStore p.body) s := rfl
  rw [ran, commandEvent_closed _ (by decide) takes short, judgeStore]
  simp only [State.closeWindow_frame]
  split_ifs
  · rw [State.refuse_ends]
  · rw [State.refuse_ends]
  · rw [State.refuse_ends]
  · rw [State.accept_ends]

/-- The event of a taken RELOAD. -/
theorem exec_reload_taken {s : State} {p : Packet} (takes : s.Takes p) (short : p.body.length ≤ 27) :
    exec (.reload p) s
      = .next
        (if p.body.length ≠ 0 then s.closeWindow.replied .reload p (.refused .badArgument)
        else if s.store.state ≠ .idle then s.closeWindow.replied .reload p (.refused .busy)
        else if s.banks.commit = .pending then s.closeWindow.replied .reload p (.refused .stagingLocked)
        else if s.store.imageValid = false then s.closeWindow.replied .reload p (.refused .imageInvalid)
        else ({ s.closeWindow with store := { s.store with state := .reloading } }).replied .reload p .accepted) := by
  have ran : exec (.reload p) s = commandEvent (commandFrame .reload p) (judgeReload p.body) s := rfl
  rw [ran, commandEvent_closed _ (by decide) takes short, judgeReload]
  simp only [State.closeWindow_frame]
  split_ifs
  · rw [State.refuse_ends]
  · rw [State.refuse_ends]
  · rw [State.refuse_ends]
  · rw [State.refuse_ends]
  · rw [State.accept_ends]

/-- Settles O49: the tests of STORE and RELOAD in their order; a store begins by spoiling the image's check. -/
theorem storeAndReloadStart : Obligations.StoreAndReloadStart := by
  intro s p takes length short
  have spoiled : imageMatches s.closeWindow.beginStore.store.image = false
      ∧ s.closeWindow.beginStore.store.image.length = 411 := State.beginStore_image length
  exact ⟨⟨_, _, exec_store_taken takes short, spoiled⟩, exec_reload_taken takes short⟩

/-! ### The end of a store (R152) -/

/-- An image that reads back as it was written: the store is done. -/
theorem State.storeRead_written {s : State} (length : s.banks.active.bytes.length = tableSetSize) :
    s.storeRead (writtenImage s.banks.active)
      = ({ s with store := { s.store with
          image := writtenImage s.banks.active, imageValid := true, state := .idle } } : State).latch .storeDone := by
  have good : (writtenImage s.banks.active == writtenImage s.banks.active
      && imageMatches (writtenImage s.banks.active)) = true := by
    simp [imageMatches_written _ length]
  unfold State.storeRead State.storeOutcome
  simp only [if_pos good]
  rfl

/-- An image that does not read back as it was written: the store has failed. -/
theorem State.storeRead_other {s : State} {image : Bytes} (other : image ≠ writtenImage s.banks.active) :
    s.storeRead image
      = (({ s with store := { s.store with image := image, imageValid := false, state := .idle } } : State).latch
          .storeFailed).latch .imageInvalid := by
  have bad : ¬(image == writtenImage s.banks.active && imageMatches image) = true := by simp [other]
  unfold State.storeRead State.storeOutcome
  simp only [if_neg bad]
  rfl

/-- The event of the end of a running store. -/
theorem exec_storeEnd_storing {s : State} (storing : s.store.state = .storing) (left : List ByteChange) :
    exec (.storeEnd left) s
      = .next (s.storeRead (changeBytes (writtenImage s.banks.active) left)).attemptSwap.driveAttn := by
  have ran : exec (.storeEnd left) s = finish (if s.store.state = .storing then s.endStore left else s) := rfl
  rw [ran, if_pos storing, State.endStore_eq]
  rfl

/-! ### The end of a reload (R154) -/

/-- The event of the end of a running reload. -/
theorem exec_reloadEnd_reloading {s : State} (reloading : s.store.state = .reloading) :
    exec .reloadEnd s = .next s.endReload.driveAttn := by
  have ran : exec .reloadEnd s = finish (if s.store.state = .reloading then s.endReload else s) := rfl
  rw [ran, if_pos reloading]
  rfl

/-- A reload of a matching image writes its Table Set into staging. -/
theorem State.endReload_matching {s : State} (matching : imageMatches s.store.image = true) :
    s.endReload
      = { s with
          banks := { s.banks with staging := imageTables s.store.image }
          store := { s.store with state := .idle } } := by
  simp only [State.endReload, if_pos matching]

/-- A reload of another image clears the image-valid flag. -/
theorem State.endReload_failed {s : State} (failed : imageMatches s.store.image = false) :
    s.endReload
      = ({ s with store := { s.store with state := .idle, imageValid := false } } : State).latch .imageInvalid := by
  simp only [State.endReload, if_neg (ne_true_of_eq_false failed)]
  rfl

/-! ### The image's check and its bytes (R149) -/

/-- An image matches when its last two bytes hold the check of the others (R149). -/
theorem imageMatches_iff (image : Bytes) :
    imageMatches image = true ↔ u16At image 409 = (crc16 (image.take 409)).toNat := by
  have field : (imageCheck image).toNat = u16At image 409 := by
    rw [imageCheck, BitVec.toNat_ofNat]
    exact Nat.mod_eq_of_lt (u16At_lt _ _)
  rw [imageMatches, beq_iff_eq, ← BitVec.toNat_inj, field]
  rfl

/-- A byte no change names is kept. -/
theorem changeBytes_kept {changes : List ByteChange} {k : Nat} (kept : ∀ c, c ∈ changes → c.offset ≠ k) (image : Bytes) :
    (changeBytes image changes)[k]? = image[k]? := by
  induction changes generalizing image with
  | nil => rfl
  | cons c rest ih =>
    have step := ih (fun d later => kept d (List.mem_cons_of_mem c later)) (image.set c.offset c.value)
    exact step.trans (List.getElem?_set_ne (kept c List.mem_cons_self))

/-- The last change of a byte within the image gives its value. -/
theorem changeBytes_last {after : List ByteChange} {c : ByteChange} {image : Bytes} (inside : c.offset < image.length)
    (last : ∀ d, d ∈ after → d.offset ≠ c.offset) (before : List ByteChange) :
    (changeBytes image (before ++ c :: after))[c.offset]? = some c.value := by
  have split_ : changeBytes image (before ++ c :: after)
      = changeBytes ((changeBytes image before).set c.offset c.value) after := List.foldl_append
  rw [split_, changeBytes_kept last, List.getElem?_set_self (by simpa using inside)]

/-- A shift of the image check register, by the register's value (R149). -/
theorem crc16Shift_eq :
    crc16Shift = fun r : BitVec 16 => if 2 ^ 15 ≤ r.toNat then (r <<< 1) ^^^ 0x1021#16 else r <<< 1 := by
  funext r
  simp [crc16Shift, BitVec.msb_eq_decide]

/-- A byte in the upper half of the register, by its value. -/
theorem byte_append_zero (b : Byte) : b ++ 0#8 = BitVec.ofNat 16 (b.toNat * 256) := by
  apply BitVec.eq_of_toNat_eq
  have := b.isLt
  rw [BitVec.toNat_append, BitVec.toNat_ofNat, BitVec.toNat_ofNat, Nat.zero_mod, Nat.or_zero, Nat.shiftLeft_eq]
  omega

/-- One more byte in the image check (R149). -/
theorem crc16_append (bytes : Bytes) (b : Byte) :
    crc16 (bytes ++ [b])
      = Nat.repeat (fun r : BitVec 16 => if 2 ^ 15 ≤ r.toNat then (r <<< 1) ^^^ 0x1021#16 else r <<< 1) 8
          (crc16 bytes ^^^ BitVec.ofNat 16 (b.toNat * 256)) := by
  rw [← crc16Shift_eq, ← byte_append_zero, crc16, List.foldl_append]
  rfl

/-- Settles O50: the two outcomes of a store and of a reload, the loss of content, and the image check byte by byte. -/
theorem storeAndReloadEnd : Obligations.StoreAndReloadEnd := by
  refine ⟨fun s left storing length => ?_, ⟨fun s reloading => ⟨fun matching => ?_, fun failed => ?_⟩,
      fun s lost => rfl, imageMatches_iff⟩,
    fun image changes => ⟨changeBytes_length image changes, fun k kept => changeBytes_kept kept image,
      fun before after c split_ inside last => split_ ▸ changeBytes_last inside last before⟩, rfl, crc16_append⟩
  · intro written image
    rw [exec_storeEnd_storing storing]
    refine ⟨fun same => ?_, fun other => ?_⟩
    · rw [show changeBytes (writtenImage s.banks.active) left = writtenImage s.banks.active from same,
        State.storeRead_written length]
      rfl
    · rw [State.storeRead_other (image := changeBytes (writtenImage s.banks.active) left) other]
      rfl
  · rw [exec_reloadEnd_reloading reloading, State.endReload_matching matching]
    rfl
  · rw [exec_reloadEnd_reloading reloading, State.endReload_failed failed]

end Sys2Proof.Machine

/-! PROOFS. The state after a power-on reset, the conditions and READ STATUS (spec/00, spec/10, R159, R162, R163) -/

namespace Sys2Proof.Machine

/-! ### The state after a power-on reset (R162) -/

/-- A power-on reset latches POWER_ON alone (R162). -/
theorem State.reset_isLatched_iff (k : Condition) : State.reset.isLatched k = true ↔ k = .powerOn := by
  cases k <;> decide

/-- Settles O4: every block's reset values are those of the model's reset state. -/
theorem resetStateHoldsResetValues : Obligations.ResetStateHoldsResetValues :=
  ⟨rfl, rfl, rfl, rfl, rfl, rfl, rfl, rfl, rfl, rfl, rfl, rfl, rfl, rfl, rfl, rfl, rfl, rfl, rfl,
    State.reset_isLatched_iff, rfl, rfl⟩

/-- The sizes of the reset state's lists. -/
theorem State.reset_sizesOk : State.reset.SizesOk :=
  ⟨factoryDefaults_length, factoryDefaults_length, List.length_replicate, rfl, rfl, fun _ o => nomatch o⟩

/-- The reset state's guard is one the rules allow. -/
theorem State.reset_guardOk : State.reset.GuardOk :=
  ⟨by decide, by decide, by decide, by decide, by decide, by decide, by decide, by decide⟩

/-- The reset state's Lift Unit is EMPTY and its parts agree. -/
theorem State.reset_liftOk : State.reset.LiftOk :=
  ⟨by decide, by decide, by decide, by decide, by decide, by decide, by decide, by decide, fun _ c => nomatch c⟩

/-- The reset state's tallies are in their ranges. -/
theorem State.reset_tallyOk : State.reset.TallyOk := by
  refine ⟨fun t tally => ?_, by decide, by decide, by decide⟩
  obtain rfl : t = zeroTally := List.eq_of_mem_replicate tally
  decide

/-- The reset state meets the invariants of the blocks. -/
theorem State.reset_inv : State.reset.Inv where
  sizes := State.reset_sizesOk
  queues := ⟨by decide, by decide, by decide⟩
  router := .inl ⟨rfl, rfl, rfl, rfl⟩
  ven := by unfold State.VenOk; decide
  guard := State.reset_guardOk
  lift := State.reset_liftOk
  tally := State.reset_tallyOk
  commit := ⟨by decide, by decide⟩
  reading := fun _ => ⟨rfl, rfl, rfl, rfl, rfl, rfl, rfl, rfl, rfl, rfl⟩
  lineReset := ⟨by decide, by decide⟩
  latched := fun idle => nomatch idle

/-- A shift of the image check register leaves it nonzero: the polynomial's last term is 1 (R149). -/
theorem crc16Shift_ne_zero {r : BitVec 16} (nonzero : r ≠ 0) : crc16Shift r ≠ 0 := by
  unfold crc16Shift
  split
  · next high =>
    intro zero
    have lowest := congrArg (fun v : BitVec 16 => v.getLsbD 0) zero
    simp at lowest
  · next low =>
    intro zero
    have small : r.toNat < 2 ^ 15 := by simpa [BitVec.msb_eq_decide] using low
    have doubled := congrArg BitVec.toNat zero
    rw [BitVec.toNat_shiftLeft, Nat.shiftLeft_eq] at doubled
    refine nonzero (BitVec.eq_of_toNat_eq ?_)
    change _ = 0 at doubled
    change _ = 0
    omega

/-- Zero bytes leave the image check register nonzero (R149). -/
theorem crc16_zeros_ne_zero (n : Nat) : crc16 (List.replicate n 0) ≠ 0 := by
  have kept (m : Nat) {r : BitVec 16} (nonzero : r ≠ 0) : Nat.repeat crc16Shift m r ≠ 0 := by
    induction m with
    | zero => exact nonzero
    | succ m ih => exact crc16Shift_ne_zero ih
  induction n with
  | zero => decide
  | succ n ih =>
    have last : crc16 (List.replicate n 0 ++ [0]) = Nat.repeat crc16Shift 8 (crc16 (List.replicate n 0) ^^^ 0) := by
      rw [crc16, List.foldl_append]
      rfl
    rw [List.replicate_succ', last]
    exact kept 8 (by simpa using ih)

/-- The image named for the reset state, all zeros, does not match (log 8). -/
theorem State.reset_image : imageMatches State.reset.store.image = false := by
  have zeros : imageTables State.reset.store.image = ⟨List.replicate 409 0⟩ := by
    rw [imageTables]
    exact congrArg TableSet.mk List.take_replicate
  have check : imageCheck State.reset.store.image = 0 := rfl
  rw [imageMatches, zeros, check]
  exact beq_false_of_ne (crc16_zeros_ne_zero 409).symm

/-- What the reset state measures lies in its ranges. -/
theorem State.reset_measuredOk : State.reset.MeasuredOk := by
  have clearFilter : 0 < factoryDefaults.setting .clearFilter := by decide +kernel
  exact ⟨(fun _ o => nomatch o), (fun _ t => nomatch t), by decide, by decide, by decide, by decide, clearFilter,
    Nat.zero_le _, (fun _ m => nomatch m), (fun _ c => nomatch c), (fun _ r => nomatch r), by decide,
    (fun _ w => nomatch w)⟩

/-- Settles O5: block by block, the reset state meets the invariants; its image does not match. -/
theorem resetStateMeetsInvariants : Obligations.ResetStateMeetsInvariants :=
  ⟨State.reset_inv,
    ⟨(fun storing => nomatch storing), (fun valid => nomatch valid), (fun pending => nomatch pending),
      fun matching => absurd (State.reset_image.symm.trans matching) (by decide)⟩,
    fun _ => rfl, State.reset_measuredOk, (fun idle => nomatch idle)⟩

/-! ### READ STATUS (R159) -/

/-- READ STATUS without arguments returns the status record (R159). -/
theorem judgeReadStatus_nil (windowOpen : Bool) (s : State) :
    judgeReadStatus windowOpen [] s = s.done (statusRecord windowOpen s) := rfl

/-- Settles O9: the record is built from the state with the window closed, and shows the window as it was. -/
theorem readStatusAnswersRecord : Obligations.ReadStatusAnswersRecord := by
  refine ⟨fun s p takes body => ?_, fun s => rfl⟩
  have ran : exec (.readStatus p) s
      = commandEvent (commandFrame .readStatus p) (judgeReadStatus s.unit.window.isSome p.body) s := rfl
  rw [ran, commandEvent_closed _ (by decide) takes (by simp [body]), body, judgeReadStatus_nil, State.done_ends]

/-! ### The causes (R163) -/

/-- The cause of OUT_OF_MAP: the tip's band is BEYOND (R19). -/
theorem State.outOfMapCause_iff (s : State) :
    s.outOfMapCause = true ↔ ∃ t, s.tip = some t ∧ t.band = .beyond := by
  cases tip : s.tip <;> simp [State.outOfMapCause, tip]

/-- The cause of ZONE_VIOLATION: the tip's effective rule is NO_ENTRY (R19). -/
theorem State.zoneViolationCause_iff (s : State) :
    s.zoneViolationCause = true ↔ ∃ t, s.tip = some t ∧ t.zone.rule = .noEntry := by
  cases tip : s.tip <;> simp [State.zoneViolationCause, tip]

/-- The cause of NEAR_CAPACITY: the tip's utilization is present and at or above warn (R33). -/
theorem State.nearCapacityCause_iff (s : State) :
    s.nearCapacityCause = true
      ↔ ∃ t u, s.tip = some t ∧ t.utilization = some u ∧ s.banks.active.setting .warn ≤ u := by
  cases tip : s.tip with
  | none => simp [State.nearCapacityCause, tip]
  | some t => cases utilization : t.utilization <;> simp [State.nearCapacityCause, tip, utilization]

/-- An event condition has no cause (R163). -/
theorem State.cause_event (s : State) {k : Condition} (event : k ∉ persistentConditions) : s.cause k = false := by
  cases k with
  | imageInvalid | sampleStale | outOfMap | zoneViolation | nearCapacity | overload | bunkNear | bunkFull | forced =>
    exact absurd (by decide) event
  | powerOn | crcCab | crcCrane | fwdDrop | commandLost | valveReject | zoneStop | tallyUnderrun | queueOverflow | tareDone
  | tareFailed | swapDone | storeDone | storeFailed | serviceKeyLost | liftAbandoned => rfl

/-- Settles O12: the causes one by one, and what latching and judging write. -/
theorem persistentCausesFollowState : Obligations.PersistentCausesFollowState := by
  refine ⟨fun s => ⟨by simp [State.cause], Iff.rfl, s.outOfMapCause_iff, s.zoneViolationCause_iff,
      s.nearCapacityCause_iff, beq_iff_eq, decide_eq_true_iff, decide_eq_true_iff, Iff.rfl, fun k => s.cause_event⟩,
    rfl, fun s k => ⟨rfl, rfl, fun j => ?_, rfl, rfl⟩⟩
  have same : (k == j) = decide (j = k) := Bool.eq_iff_iff.mpr (by rw [beq_iff_eq, decide_eq_true_iff, eq_comm])
  rw [State.isLatched_latch, Bool.or_comm, same]

end Sys2Proof.Machine

/-! PROOFS. The guard's state commands, the tally commands and the two timers (spec/03, spec/04, spec/05, R44 to R49, R81,
R94 to R97, R100) -/

namespace Sys2Proof.Machine

/-! ### The guard's state commands (R44 to R49) -/

/-- GUARD STOP without arguments (R44). -/
theorem judgeGuardStop_nil (s : State) : judgeGuardStop [] s = (s.enterGuard .blocked false).done := rfl

/-- PARK without arguments (R48). -/
theorem judgePark_nil (s : State) : judgePark [] s = (s.enterGuard .park false).done := rfl

/-- PARK EXIT from PARK goes to HOLD with active tables, to BLOCKED without (R49). -/
theorem judgeParkExit_parked {s : State} (park : s.guard.state = .park) :
    judgeParkExit [] s = (s.enterGuard (if s.banks.activeValid = true then .hold else .blocked) false).done := by
  cases valid : s.banks.activeValid <;> simp [judgeParkExit, park, valid]

/-- PARK EXIT from another state is refused (R49). -/
theorem judgeParkExit_other {s : State} (other : s.guard.state ≠ .park) :
    judgeParkExit [] s = s.refuse .wrongState := by
  simp [judgeParkExit, other]

/-- SERVICE EXIT is carried out in SERVICE only (R46). -/
theorem judgeServiceExit_nil (s : State) :
    judgeServiceExit [] s
      = if s.guard.state = .service then (s.enterGuard .blocked false).done else s.refuse .wrongState := by
  by_cases service : s.guard.state = .service
  · simp [judgeServiceExit, service]
  · simp [judgeServiceExit, service]

/-- The guard states that refuse SERVICE ENTER are the three other than BLOCKED and ENFORCE. -/
theorem refusesService_iff (g : GuardState) :
    (g ≠ .blocked ∧ g ≠ .enforce) ↔ g = .hold ∨ g = .service ∨ g = .park :=
  and_comm.trans (refusesTare_iff g)

/-- SERVICE ENTER without arguments: the state, then the key (R45). -/
theorem judgeServiceEnter_nil (s : State) :
    judgeServiceEnter [] s
      = if s.guard.state = .hold ∨ s.guard.state = .service ∨ s.guard.state = .park then s.refuse .wrongState
        else if s.pins.skey = false then s.refuse .noKey
        else (s.enterGuard .service false).done :=
  (if_neg (by simp)).trans (if_congr (refusesService_iff _) rfl rfl)

/-- Outside SERVICE the service key is sampled for the event (R47). -/
theorem State.samplePins_skey {s : State} (other : s.guard.state ≠ .service) (pins : Pins) :
    (s.samplePins pins).pins.skey = pins.skey :=
  if_neg other

/-- The event of a taken SERVICE ENTER. -/
theorem exec_serviceEnter_taken {s : State} {p : Packet} (takes : s.Takes p) (body : p.body = []) (skey : Bool) :
    let u := (s.samplePins ⟨s.pins.csi, skey⟩).closeWindow
    exec (.serviceEnter p skey) s
      = .next
        (if s.guard.state = .hold ∨ s.guard.state = .service ∨ s.guard.state = .park then
          u.replied .serviceEnter p (.refused .wrongState)
        else if skey = false then u.replied .serviceEnter p (.refused .noKey)
        else (u.enterGuard .service false).replied .serviceEnter p .done) := by
  intro u
  have ran : exec (.serviceEnter p skey) s
      = commandEvent (commandFrame .serviceEnter p) (judgeServiceEnter p.body) (s.samplePins ⟨s.pins.csi, skey⟩) := rfl
  have sampled : (s.samplePins ⟨s.pins.csi, skey⟩).Takes p := takes
  have guard : u.guard = s.guard := rfl
  rw [ran, commandEvent_closed _ (by decide) sampled (by simp [body]), body, judgeServiceEnter_nil]
  change Host.Outcome.next ((if u.guard.state = .hold ∨ u.guard.state = .service ∨ u.guard.state = .park then _
    else if u.pins.skey = false then _ else _ : Answer).ends .serviceEnter p) = _
  rw [guard]
  by_cases refuses : s.guard.state = .hold ∨ s.guard.state = .service ∨ s.guard.state = .park
  · rw [if_pos refuses, if_pos refuses, State.refuse_ends]
  · have key : u.pins.skey = skey := State.samplePins_skey (fun service => refuses (.inr (.inl service))) _
    rw [if_neg refuses, if_neg refuses, key]
    cases skey with
    | false => exact congrArg Host.Outcome.next (State.refuse_ends _ _ _ _)
    | true => exact congrArg Host.Outcome.next (State.done_ends _ _ _ _)

/-- Settles O20: each of the guard's state commands by its judgement, and the fall of the service key. -/
theorem guardCommandsChangeState : Obligations.GuardCommandsChangeState := by
  refine ⟨fun s p takes body => ⟨?_, ?_, fun park => ?_, fun other => ?_⟩,
    fun s p skey takes body => exec_serviceEnter_taken takes body skey, fun s p takes body => ?_, fun s => ?_⟩
  · have ran : exec (.guardStop p) s = commandEvent (commandFrame .guardStop p) (judgeGuardStop p.body) s := rfl
    rw [ran, commandEvent_closed _ (by decide) takes (by simp [body]), body, judgeGuardStop_nil, State.done_ends]
  · have ran : exec (.park p) s = commandEvent (commandFrame .park p) (judgePark p.body) s := rfl
    rw [ran, commandEvent_closed _ (by decide) takes (by simp [body]), body, judgePark_nil, State.done_ends]
  · have ran : exec (.parkExit p) s = commandEvent (commandFrame .parkExit p) (judgeParkExit p.body) s := rfl
    rw [ran, commandEvent_closed _ (by decide) takes (by simp [body]), body,
      judgeParkExit_parked (s := s.closeWindow) park, State.done_ends]
    rfl
  · have ran : exec (.parkExit p) s = commandEvent (commandFrame .parkExit p) (judgeParkExit p.body) s := rfl
    rw [ran, commandEvent_closed _ (by decide) takes (by simp [body]), body,
      judgeParkExit_other (s := s.closeWindow) other, State.refuse_ends]
  · have ran : exec (.serviceExit p) s = commandEvent (commandFrame .serviceExit p) (judgeServiceExit p.body) s := rfl
    rw [ran, commandEvent_closed _ (by decide) takes (by simp [body]), body, judgeServiceExit_nil]
    simp only [State.closeWindow_frame]
    split_ifs
    · rw [State.done_ends]
    · rw [State.refuse_ends]
  · intro u
    rfl

/-! ### The tally commands (R94, R96, R97, R100) -/

/-- The event of a taken SELECT ASSORTMENT. -/
theorem exec_selectAssortment_taken {s : State} {p : Packet} {a : Byte} (takes : s.Takes p) (body : p.body = [a]) :
    exec (.selectAssortment p) s
      = .next
        (if a.toNat < 12 ∧ s.banks.active.assortmentEnabled a.toNat = true then
          ({ s.closeWindow with tally := { s.tally with selected := a.toNat } }).replied .selectAssortment p .done
        else s.closeWindow.replied .selectAssortment p (.refused .badArgument)) := by
  have ran : exec (.selectAssortment p) s
      = commandEvent (commandFrame .selectAssortment p) (judgeSelectAssortment p.body) s := rfl
  have judged : judgeSelectAssortment [a] s.closeWindow
      = if a.toNat < 12 ∧ s.banks.active.assortmentEnabled a.toNat = true then
          ({ s.closeWindow with tally := { s.tally with selected := a.toNat } } : State).done
        else s.closeWindow.refuse .badArgument := rfl
  rw [ran, commandEvent_closed _ (by decide) takes (by simp [body]), body, judged]
  split_ifs
  · rw [State.done_ends]
  · rw [State.refuse_ends]

/-- FETCH LIFT from an empty queue is refused (R100). -/
theorem judgeFetchLift_empty {s : State} (empty : s.tally.records = []) : judgeFetchLift [] s = s.refuse .empty := by
  rw [judgeFetchLift, if_neg (by simp), empty]

/-- FETCH LIFT removes and returns the oldest record (R100). -/
theorem judgeFetchLift_oldest {s : State} {r : LiftRecord} {rest : List LiftRecord} (queued : s.tally.records = r :: rest) :
    judgeFetchLift [] s
      = ({ s with tally := { s.tally with records := rest } } : State).done (liftRecordBytes r) := by
  rw [judgeFetchLift, if_neg (by simp), queued]

/-- The event of a taken READ TALLY. -/
theorem exec_readTally_taken {s : State} {p : Packet} {i : Byte} (takes : s.Takes p) (body : p.body = [i]) :
    exec (.readTally p) s
      = .next
        (if i.toNat < 12 then
          s.closeWindow.replied .readTally p .done
            (tallyBytes s.banks.active i.toNat (s.tally.tallies.getD i.toNat ⟨0, 0, 0, 0⟩))
        else if i.toNat = 12 then s.closeWindow.replied .readTally p .done (totalsBytes s.tally)
        else s.closeWindow.replied .readTally p (.refused .badArgument)) := by
  have ran : exec (.readTally p) s = commandEvent (commandFrame .readTally p) (judgeReadTally p.body) s := rfl
  have judged : judgeReadTally [i] s.closeWindow
      = if i.toNat < 12 then
          s.closeWindow.done (tallyBytes s.banks.active i.toNat (s.tally.tallies.getD i.toNat ⟨0, 0, 0, 0⟩))
        else if i.toNat = 12 then s.closeWindow.done (totalsBytes s.tally)
        else s.closeWindow.refuse .badArgument := rfl
  rw [ran, commandEvent_closed _ (by decide) takes (by simp [body]), body, judged]
  split_ifs
  · rw [State.done_ends]
  · rw [State.done_ends]
  · rw [State.refuse_ends]

/-- Empty tallies are no cause of a bunk condition where the limit and its near mark are set (R92). -/
theorem State.judgeBunk_empty {s : State} (empty : s.tally.tallies = List.replicate 12 zeroTally)
    (limit : 0 < s.banks.active.setting .bunkLimit) (near : 0 < s.banks.active.setting .bunkNear) : s.judgeBunk = s := by
  have total : s.tally.bunkTotal = 0 := by
    rw [TallyUnit.bunkTotal, empty]
    rfl
  have nearAbsent : s.bunkNearCause = false := by
    rw [State.bunkNearCause, total, decide_eq_false_iff_not, Nat.zero_mul]
    exact Nat.not_le.mpr (Nat.mul_pos limit near)
  have fullAbsent : s.bunkFullCause = false := by
    rw [State.bunkFullCause, total, decide_eq_false_iff_not]
    exact Nat.not_le.mpr limit
  rw [State.judgeBunk, nearAbsent, fullAbsent]
  rfl

/-- The twelve tallies and the work timer 0 (R96). -/
def State.tallyCleared (s : State) : State :=
  { s with tally := { s.tally with tallies := List.replicate 12 zeroTally, workTimer := 0 } }

/-- CLEAR TALLY without arguments latches nothing where the limit and its near mark are set (R92, R96). -/
theorem judgeClearTally_nil {s : State} (limit : 0 < s.banks.active.setting .bunkLimit)
    (near : 0 < s.banks.active.setting .bunkNear) : judgeClearTally [] s = s.tallyCleared.done :=
  congrArg (fun t : State => t.done) (State.judgeBunk_empty (s := s.tallyCleared) rfl limit near)

/-- The event of a taken CLEAR TALLY. -/
theorem exec_clearTally_taken {s : State} {p : Packet} (takes : s.Takes p) (body : p.body = [])
    (limit : 0 < s.banks.active.setting .bunkLimit) (near : 0 < s.banks.active.setting .bunkNear) :
    exec (.clearTally p) s = .next (s.closeWindow.tallyCleared.replied .clearTally p .done) := by
  have ran : exec (.clearTally p) s = commandEvent (commandFrame .clearTally p) (judgeClearTally p.body) s := rfl
  rw [ran, commandEvent_closed _ (by decide) takes (by simp [body]), body,
    judgeClearTally_nil (s := s.closeWindow) limit near, State.done_ends]

/-- The event of a taken FETCH LIFT. -/
theorem exec_fetchLift_taken {s : State} {p : Packet} (takes : s.Takes p) (body : p.body = []) :
    exec (.fetchLift p) s = .next ((judgeFetchLift [] s.closeWindow).ends .fetchLift p) := by
  have ran : exec (.fetchLift p) s = commandEvent (commandFrame .fetchLift p) (judgeFetchLift p.body) s := rfl
  rw [ran, commandEvent_closed _ (by decide) takes (by simp [body]), body]

/-! ### The timers (R81, R95) -/

/-- The work timer runs in ENFORCE while quiet is false (R95). -/
theorem State.workTimerRuns_iff (s : State) :
    s.workTimerRuns = true ↔ s.guard.state = .enforce ∧ s.guard.quiet = false := by
  simp [State.workTimerRuns]

/-- Settles O42: the tally commands by their judgements, and each timer while it runs. -/
theorem tallyCommandsAndTimers : Obligations.TallyCommandsAndTimers := by
  refine ⟨fun s p a takes body => exec_selectAssortment_taken takes body,
    fun s p takes => ⟨fun body => ⟨fun empty => ?_, fun r rest queued => ?_,
      fun limit near => exec_clearTally_taken takes body limit near⟩, fun i body => exec_readTally_taken takes body⟩,
    fun s => ⟨rfl, ?_⟩⟩
  · rw [exec_fetchLift_taken takes body, judgeFetchLift_empty (s := s.closeWindow) empty, State.refuse_ends]
  · rw [exec_fetchLift_taken takes body, judgeFetchLift_oldest (s := s.closeWindow) queued, State.done_ends]
    rfl
  · have ran : exec .workTimerTick s
        = .next (if s.workTimerRuns = true then
            { s with tally := { s.tally with workTimer := min (s.tally.workTimer + 1) 4294967295 } } else s).driveAttn := rfl
    rw [ran]
    exact congrArg (fun t : State => Host.Outcome.next t.driveAttn) (if_congr s.workTimerRuns_iff rfl rfl)

end Sys2Proof.Machine
